-- ==== Sys2Proof/Word.lean ====
section
/-! DEFINITION. The word types of the block: 8-bit samples and ROM entries, 32-bit counters and registers
(spec/00_scope.md R8, R12: `SAMPLE_WIDTH`, `PHASE_WIDTH`, `LFSR_WIDTH`, `POS_WIDTH`, `TICK_WIDTH`). -/
namespace Sys2Proof

/-- A sample, a volume or one ROM entry: 8 bits (R8 `SAMPLE_WIDTH`, `VOL_WIDTH`). -/
abbrev Byte := BitVec 8

/-- A 32-bit register: POS, PHASE, INC, LFSR, TICK, and the input `goal` (R8). -/
abbrev Word := BitVec 32

end Sys2Proof
end

