-- ==== Sys2Proof/Syntax.lean ====
section
/-! DEFINITION. The operations of the block (spec/30_encoding.md R100), one constructor of `Instr` for each row
of spec/opcode_table.json; the generators the multiplexer selects; what the environment presents at a step; and
the event-trace notation of R109 and R110 as it is written, numbers unchecked. -/
namespace Sys2Proof

/-- The fourteen operations and IDLE (R100). Operands are those R105 names, at the widths of R31. -/
inductive Instr where
  /-- RESET, format EV (R310). -/
  | reset
  /-- AUDIO_TICK, format EV (R230). -/
  | audioTick
  /-- SERVICE_TICK, format EV, with the inputs it samples: `btn_raw` and `adc_raw` (R250). -/
  | serviceTick (btn : Bool) (adc : BitVec 12)
  /-- FG_POLL, format EV (R211). -/
  | fgPoll
  /-- IDLE, the empty request (R104). -/
  | idle
  /-- DEADLINE_CHECK, format COMB, with the input `goal` (R258). -/
  | deadlineCheck (goal : Word)
  /-- LOOP0, format MSEL (R187). -/
  | loop0
  /-- LOOP1, format MSEL (R188). -/
  | loop1
  /-- LOOP2, format MSEL (R189). -/
  | loop2
  /-- LOOP3, format MSEL (R190). -/
  | loop3
  /-- TONE0, format MSEL (R133). -/
  | tone0
  /-- TONE1, format MSEL (R134). -/
  | tone1
  /-- WNOISE, format MSEL (R154). -/
  | wnoise
  /-- PNOISE, format MSEL (R156). -/
  | pnoise
  /-- SILENCE, format MSEL (R185). -/
  | silence
  deriving DecidableEq, Repr

/-- The nine generator operations `audio_mode_mux` chooses among (R2, R102, R186). -/
inductive Generator where
  | loop0 | loop1 | loop2 | loop3 | tone0 | tone1 | wnoise | pnoise | silence
  deriving DecidableEq, Repr

/-- The three formats of R100. -/
inductive Format where
  | ev | msel | comb
  deriving DecidableEq, Repr

/-- An operation as the bits it is requested or selected by: the request vector with the input signals
SERVICE_TICK samples (R101), the select bus (R102), or the input `goal` of the comparator (R103). -/
inductive Encoding where
  | ev (word : BitVec 4) (btn : Bool) (adc : BitVec 12)
  | msel (word : BitVec 4)
  | comb (goal : Word)
  deriving DecidableEq, Repr

/-- What the environment presents at one element of an event trace (R31, R109): a request vector with the
levels of `btn_raw` and `adc_raw`, or a sampling of `reached` with `goal`. It drives no select bus. -/
inductive Input where
  | request (ev : BitVec 4) (btn : Bool) (adc : BitVec 12)
  | deadline (goal : Word)
  deriving DecidableEq, Repr

/-- One event of the trace notation as written (R109), or a pseudo-event (R110); numbers are unchecked here,
see `Event.wf`. -/
inductive Event where
  /-- `R` -/
  | r
  /-- `A` -/
  | a
  /-- `S b adc` -/
  | s (b adc : Nat)
  /-- `P` -/
  | p
  /-- `I` -/
  | i
  /-- `E v`, or `E v b adc` -/
  | e (v : Nat) (operands : Option (Nat × Nat))
  /-- `D g` -/
  | d (g : Nat)
  /-- `HOLD b adc n` -/
  | hold (b adc n : Nat)
  /-- `PRESS adc` -/
  | press (adc : Nat)
  /-- `RELEASE adc` -/
  | release (adc : Nat)
  /-- `NEXT adc` -/
  | next (adc : Nat)
  deriving DecidableEq, Repr

/-- One line of an event trace: an event and its repeat suffix `*n` (1 where none is written) (R109). -/
structure Line where
  event : Event
  times : Nat
  deriving DecidableEq, Repr

end Sys2Proof
end

