-- ==== Sys2Proof/WellFormed.lean ====
section
/-! DEFINITION. What a well-formed event of the trace notation is (spec/30_encoding.md R109): each number in the
range of its signal. An `Instr` and an `Input` carry their operands at the widths of spec/10_state.md R31, so
every one of them is well formed. The well-formedness of a configuration (R9) is `Config.valid` in
Machine/Setup.lean. -/
namespace Sys2Proof

/-- `b` is a level of `btn_raw`: 0 or 1 (R109). -/
def wfLevel (b : Nat) : Bool := decide (b ≤ 1)

/-- `adc` is a reading of `adc_raw`: 0 to 4095 (R109). -/
def wfAdc (adc : Nat) : Bool := decide (adc ≤ 4095)

/-- The operands of `E v` stand exactly where `v[1] = 1`, in their ranges (R109). -/
def wfOperands (v : Nat) : Option (Nat × Nat) → Bool
  | none => !v.testBit 1
  | some (b, adc) => v.testBit 1 && wfLevel b && wfAdc adc

/-- Every number of the event is in the range of its signal (R109, R110). -/
def Event.wf : Event → Bool
  | .r => true
  | .a => true
  | .s b adc => wfLevel b && wfAdc adc
  | .p => true
  | .i => true
  | .e v operands => decide (v ≤ 15) && wfOperands v operands
  | .d g => decide (g < 2 ^ 32)
  | .hold b adc _ => wfLevel b && wfAdc adc
  | .press adc => wfAdc adc
  | .release adc => wfAdc adc
  | .next adc => wfAdc adc

/-- A line is well formed when its event is; the repeat count is any number (R109: n >= 0). -/
def Line.wf (l : Line) : Bool := l.event.wf

end Sys2Proof
end

