-- ==== Sys2Proof/Decode.lean ====
section
/-! DEFINITION. Decoding of the request vector `ev` and of the select bus `msel` (spec/30_encoding.md R101 to
R108), the encoder, the opcode table as data, and the expansion of the event-trace notation into the inputs it
stands for (R109, R110). Decoding is total: there are no illegal encodings (R108). -/
namespace Sys2Proof

/-! ### Decoding -/

/-- Decoding `ev` yields a sequence of operations (R106): RESET alone if `ev[3]`; otherwise AUDIO_TICK,
SERVICE_TICK, FG_POLL, each if its bit is 1, in that order. The empty request is IDLE (R104). -/
def decodeEv (ev : BitVec 4) (btn : Bool) (adc : BitVec 12) : List Instr :=
  if ev.getLsbD 3 then [.reset]
  else if ev = 0 then [.idle]
  else
    (if ev.getLsbD 2 then [.audioTick] else []) ++
    (if ev.getLsbD 1 then [.serviceTick btn adc] else []) ++
    (if ev.getLsbD 0 then [.fgPoll] else [])

/-- Decoding `msel` yields exactly one generator operation (R102, R107): `grp = msel[3:2]`; for `grp = 00` the
loop `k = msel[1:0]`; for `grp = 01` the tone `j = msel[0]` when `msel[1] = 0` and the noise `j` when it is 1;
every word with `msel[3] = 1` is SILENCE. -/
def decodeMsel (w : BitVec 4) : Generator :=
  match w.getLsbD 3, w.getLsbD 2, w.getLsbD 1, w.getLsbD 0 with
  | true, _, _, _ => .silence
  | false, false, false, false => .loop0
  | false, false, false, true => .loop1
  | false, false, true, false => .loop2
  | false, false, true, true => .loop3
  | false, true, false, false => .tone0
  | false, true, false, true => .tone1
  | false, true, true, false => .wnoise
  | false, true, true, true => .pnoise

/-- The operation a generator of the multiplexer is (R100). -/
def Generator.instr : Generator → Instr
  | .loop0 => .loop0
  | .loop1 => .loop1
  | .loop2 => .loop2
  | .loop3 => .loop3
  | .tone0 => .tone0
  | .tone1 => .tone1
  | .wnoise => .wnoise
  | .pnoise => .pnoise
  | .silence => .silence

/-- The operations the bits of a format stand for (R106, R107, R103). -/
def decode : Encoding → List Instr
  | .ev word btn adc => decodeEv word btn adc
  | .msel word => [(decodeMsel word).instr]
  | .comb goal => [.deadlineCheck goal]

/-- The bits an input of the environment presents (R101, R103). -/
def Input.bits : Input → Encoding
  | .request ev btn adc => .ev ev btn adc
  | .deadline goal => .comb goal

/-- The operations one input of the environment requests, in the order they are performed (R106). -/
def Input.ops (x : Input) : List Instr := decode x.bits

/-! ### Encoding -/

/-- The bits of one operation: the single request of R109 for the events, the row of R102 for the generator
operations (`1000` for SILENCE, whose low bits are `x`), the input `goal` for DEADLINE_CHECK. Inputs an
operation does not sample are 0. -/
def encode : Instr → Encoding
  | .reset => .ev 0b1000 false 0
  | .audioTick => .ev 0b0100 false 0
  | .serviceTick btn adc => .ev 0b0010 btn adc
  | .fgPoll => .ev 0b0001 false 0
  | .idle => .ev 0b0000 false 0
  | .deadlineCheck goal => .comb goal
  | .loop0 => .msel 0b0000
  | .loop1 => .msel 0b0001
  | .loop2 => .msel 0b0010
  | .loop3 => .msel 0b0011
  | .tone0 => .msel 0b0100
  | .tone1 => .msel 0b0101
  | .wnoise => .msel 0b0110
  | .pnoise => .msel 0b0111
  | .silence => .msel 0b1000

/-- The format an encoding is in (R100). -/
def Encoding.format : Encoding → Format
  | .ev _ _ _ => .ev
  | .msel _ => .msel
  | .comb _ => .comb

/-- The opcode bits as a number, bit 0 the least significant; COMB has none (R101 to R103). -/
def Encoding.opcode : Encoding → Nat
  | .ev word _ _ => word.toNat
  | .msel word => word.toNat
  | .comb _ => 0

/-- A row of spec/opcode_table.json: its format, width in bits, and match and mask. -/
structure TableRow where
  format : Format
  width : Nat
  matchBits : Nat
  mask : Nat
  deriving DecidableEq, Repr

/-- The row of spec/opcode_table.json that stands for an operation. -/
def tableRow : Instr → TableRow
  | .reset => ⟨.ev, 4, 0x8, 0x8⟩
  | .audioTick => ⟨.ev, 4, 0x4, 0xC⟩
  | .serviceTick _ _ => ⟨.ev, 4, 0x2, 0xA⟩
  | .fgPoll => ⟨.ev, 4, 0x1, 0x9⟩
  | .idle => ⟨.ev, 4, 0x0, 0xF⟩
  | .deadlineCheck _ => ⟨.comb, 0, 0x0, 0x0⟩
  | .loop0 => ⟨.msel, 4, 0x0, 0xF⟩
  | .loop1 => ⟨.msel, 4, 0x1, 0xF⟩
  | .loop2 => ⟨.msel, 4, 0x2, 0xF⟩
  | .loop3 => ⟨.msel, 4, 0x3, 0xF⟩
  | .tone0 => ⟨.msel, 4, 0x4, 0xF⟩
  | .tone1 => ⟨.msel, 4, 0x5, 0xF⟩
  | .wnoise => ⟨.msel, 4, 0x6, 0xF⟩
  | .pnoise => ⟨.msel, 4, 0x7, 0xF⟩
  | .silence => ⟨.msel, 4, 0x8, 0x8⟩

/-- An opcode of the given format and width lies in the row (match and mask of spec/opcode_table.json). -/
def TableRow.holds (row : TableRow) (format : Format) (opcode : Nat) : Bool :=
  decide (row.format = format) && decide (opcode < 2 ^ row.width) && decide (opcode &&& row.mask = row.matchBits)

/-! ### A bare word of the table, for the host -/

/-- The one operation a bare word of spec/opcode_table.json is read as. A row of no bits is DEADLINE_CHECK (here
with `goal = 0`). A 4-bit word is read as a request vector where that names exactly one operation (R106), with
the sampled inputs 0; the words that request several operations name no single event and are read as the select
bus (R107). EV and MSEL share the words 0, 1, 2, 4 and 8, and a bare word does not say which bus it stands on:
log entry 9. -/
def decodeTableWord (nbits w : Nat) : Option Instr :=
  if nbits = 0 then some (.deadlineCheck 0)
  else if 16 ≤ w then none
  else
    match decodeEv (BitVec.ofNat 4 w) false 0 with
    | [i] => some i
    | _ => some (decodeMsel (BitVec.ofNat 4 w)).instr

/-! ### The event-trace notation -/

/-- A level written 0 or 1 (R109). -/
def levelOf (b : Nat) : Bool := decide (b = 1)

/-- The input `S b adc` stands for (R109). -/
def serviceInput (b : Bool) (adc : Nat) : Input := .request 0b0010 b (BitVec.ofNat 12 adc)

/-- The inputs an event stands for, with `DEBOUNCE_N = n` (R109, R110). -/
def Event.inputs (n : Nat) : Event → List Input
  | .r => [.request 0b1000 false 0]
  | .a => [.request 0b0100 false 0]
  | .s b adc => [serviceInput (levelOf b) adc]
  | .p => [.request 0b0001 false 0]
  | .i => [.request 0b0000 false 0]
  | .e v none => [.request (BitVec.ofNat 4 v) false 0]
  | .e v (some (b, adc)) => [.request (BitVec.ofNat 4 v) (levelOf b) (BitVec.ofNat 12 adc)]
  | .d g => [.deadline (BitVec.ofNat 32 g)]
  | .hold b adc k => List.replicate k (serviceInput (levelOf b) adc)
  | .press adc => List.replicate n (serviceInput true adc)
  | .release adc => List.replicate n (serviceInput false adc)
  | .next adc =>
    List.replicate n (serviceInput true adc) ++ [.request 0b0001 false 0] ++
    List.replicate n (serviceInput false adc) ++ [.request 0b0001 false 0]

/-- The inputs a line stands for: its event, repeated (R109). -/
def Line.inputs (n : Nat) (l : Line) : List Input := (List.replicate l.times (l.event.inputs n)).flatten

/-- The encoding of an event trace: the list of its inputs (R109). -/
def traceInputs (n : Nat) (ls : List Line) : List Input := (ls.map (Line.inputs n)).flatten

end Sys2Proof
end

