-- ==== Sys2Proof/Config.lean ====
section
/-! DEFINITION. The parameters the block is configured by (spec/00_scope.md R8), as plain data. They are
fixed for the life of the block; no operation changes one. The parameters with status OPEN, and the ones
spec/93_implementation_defined.md U3 and U12 treat as `parameter`, are fields, so the model takes them as an
argument; the others are constants of the operations that use them. Log entries 1 and 15. -/
namespace Sys2Proof

/-- The contents of one read-only space: (index, entry) pairs, indexes strictly rising, no entry equal to what
an unlisted index reads as (`Memory.wf` in Machine/Memory.lean). Log entry 13. -/
abbrev Memory := List Host.Cell

/-- One loop ROM: `LOOP_LEN[k]` and `LOOP_DATA[k]` (spec/20_memory.md R72). -/
structure LoopRom where
  /-- `LOOP_LEN[k]`, the number of 8-bit entries. -/
  len : Nat
  /-- `LOOP_DATA[k]`. -/
  data : Memory
  deriving DecidableEq, Repr

/-- The configuration of one block (spec/00_scope.md R8). -/
structure Config where
  /-- `TONE_AMPL`, the sine amplitude A, 1 to 127 (OPEN, D4). -/
  toneAmpl : Nat
  /-- `SAMPLE_RATE` in Hz (OPEN, D6). -/
  sampleRate : Nat
  /-- `TONE_FREQ1` in Hz, below `SAMPLE_RATE` (OPEN, D7). -/
  toneFreq1 : Nat
  /-- The four loop ROMs, `LOOP_LEN[k]` and `LOOP_DATA[k]` for k = 0 to 3 (OPEN). -/
  loops : Vector LoopRom 4
  /-- `OVERSAMPLE` F, the zero-order-hold factor (8 in the spec, D12, U12). -/
  oversample : Nat
  /-- `DEBOUNCE_N`, the samples needed to accept a level (15 in the spec, D15, U12). -/
  debounceN : Nat
  /-- `LFSR_TAPS`, the mask of the tap bits (0x80200003 in the spec, D8, U3). -/
  lfsrTaps : Word
  deriving DecidableEq, Repr

end Sys2Proof
end

