-- ==== Sys2Proof/Machine/Memory.lean ====
section
/-! DEFINITION. The contents of a read-only space as a list of (index, entry) pairs in one canonical form, its
read, and the loading of a ROM before RESET (spec/20_memory.md R70, R72, R73; spec/70_reset_and_hazards.md
R312 a). Nothing writes a space (spec/00_scope.md R14: `MemWrite` never occurs). Log entry 13. -/
namespace Sys2Proof

/-- What an index that is not listed reads as. DESIGN CHOICE, log entry 13: a matter of representation only, every
contents of a given length being written in exactly one way. -/
def Memory.unlisted : Byte := 0

/-- The entry at an index. -/
def Memory.read : Memory → Nat → Byte
  | [], _ => Memory.unlisted
  | (b, v) :: rest, a => if a = b then v else Memory.read rest a

/-- Every listed index is at least `lo` and below `hi`, the indexes rise strictly, and no entry is the unlisted one. -/
def Memory.wfFrom (lo hi : Nat) : Memory → Bool
  | [] => true
  | (b, v) :: rest => decide (lo ≤ b) && decide (b < hi) && decide (v ≠ Memory.unlisted) && Memory.wfFrom (b + 1) hi rest

/-- The canonical form of a space of `size` entries. -/
def Memory.wf (size : Nat) (m : Memory) : Bool := Memory.wfFrom 0 size m

/-- The cells of a list of entries that stands at index `i` and on. -/
def Memory.ofBytesFrom (i : Nat) : List Byte → Memory
  | [] => []
  | v :: rest =>
    if v = Memory.unlisted then Memory.ofBytesFrom (i + 1) rest else (i, v) :: Memory.ofBytesFrom (i + 1) rest

/-- The loop ROM an integrator loads with the given entries (R312 a): `LOOP_LEN` is their number. -/
def LoopRom.ofBytes (bs : List Byte) : LoopRom := ⟨bs.length, Memory.ofBytesFrom 0 bs⟩

/-- A loop ROM's contents are in canonical form, within its length. -/
def LoopRom.wf (r : LoopRom) : Bool := Memory.wf r.len r.data

end Sys2Proof
end

