-- ==== Sys2Proof/Machine/Setup.lean ====
section
/-! DEFINITION. What must be in place before the first operation (spec/70_reset_and_hazards.md R312): which
configurations have a meaning (spec/00_scope.md R9), the frequency words (spec/40_tone_synth.md R131), and the
example configuration of spec/95_test_vectors.md section 0, which State.reset carries (log entry 1). -/
namespace Sys2Proof

/-- `TONE_FREQ0`, 440 Hz (R8, D7). -/
def toneFreq0 : Nat := 440

/-- `LOOP_LEN[k]`, `LOOP_DATA[k]` (R8). -/
def Config.loop (c : Config) (k : Fin 4) : LoopRom := c.loops.get k

/-- `LOOP_LEN[k] * F`, the number of positions of loop k (R182). -/
def Config.loopSpan (c : Config) (k : Fin 4) : Nat := (c.loop k).len * c.oversample

/-- `TONE_FREQj` (R8). -/
def Config.toneFreq (c : Config) (j : Nat) : Nat := if j = 0 then toneFreq0 else c.toneFreq1

/-- `FW[j] = floor(2^32 * TONE_FREQj / SAMPLE_RATE)`, exactly over the integers (R131). -/
def Config.freqWord (c : Config) (j : Nat) : Word := BitVec.ofNat 32 (2 ^ 32 * c.toneFreq j / c.sampleRate)

/-- The constraints of one loop ROM (R9): at least one entry, and `LOOP_LEN[k]*F <= 2^32 - 1`. -/
def Config.validLoop (c : Config) (k : Fin 4) : Bool :=
  decide (1 ≤ (c.loop k).len) && decide (c.loopSpan k ≤ 2 ^ 32 - 1)

/-- The constraints of the loop player (R9), and F >= 1 (D12). -/
def Config.validLoops (c : Config) : Bool :=
  decide (1 ≤ c.oversample) && ((c.validLoop 0 && c.validLoop 1) && (c.validLoop 2 && c.validLoop 3))

/-- The constraints of the tone synthesizer: `TONE_AMPL` in 1 to 127, `SAMPLE_RATE` positive, and each
`TONE_FREQj` positive and below it (R8, R9). -/
def Config.validTone (c : Config) : Bool :=
  (decide (1 ≤ c.toneAmpl) && decide (c.toneAmpl ≤ 127)) &&
  (decide (toneFreq0 < c.sampleRate) && (decide (1 ≤ c.toneFreq1) && decide (c.toneFreq1 < c.sampleRate)))

/-- The constraint of the debounce filter: `DEBOUNCE_N` in 1 to `2^DB_COUNT_WIDTH - 1` (R9). -/
def Config.validDebounce (c : Config) : Bool := decide (1 ≤ c.debounceN) && decide (c.debounceN ≤ 255)

/-- The constraint of the noise register: `LFSR_TAPS` contains bit 31 (R9). -/
def Config.validTaps (c : Config) : Bool := c.lfsrTaps.getLsbD 31

/-- The configurations the model gives a meaning to: every constraint of R8 and R9, and F >= 1 (log entry 2).
`SAMPLE_RATE = 0` is refused with every rate that is not above `TONE_FREQ0`. -/
def Config.valid (c : Config) : Bool :=
  (c.validLoops && c.validTone) && (c.validDebounce && c.validTaps)

/-- The contents of the four loop ROMs are in canonical form. -/
def Config.romsWf (c : Config) : Bool :=
  (c.loop 0).wf && (c.loop 1).wf && (c.loop 2).wf && (c.loop 3).wf

/-- `OVERSAMPLE` as the spec decides it (R8, D12). -/
def specOversample : Nat := 8

/-- `DEBOUNCE_N` as the spec decides it (R8, D15). -/
def specDebounceN : Nat := 15

/-- `LFSR_TAPS` as the spec decides it: bits 31, 21, 1, 0 (R8, D8). -/
def specLfsrTaps : Word := 0x80200003

/-- The example configuration of spec/95_test_vectors.md section 0. Its OPEN values are examples: no statement
may rest on them. DESIGN CHOICE, log entry 1. -/
def exampleConfig : Config where
  toneAmpl := 100
  sampleRate := 88000
  toneFreq1 := 880
  loops := #v[LoopRom.ofBytes [0x00, 0x7F, 0xFF], LoopRom.ofBytes [0x80, 0x01], LoopRom.ofBytes [0x40],
    LoopRom.ofBytes [0xC0, 0x3F]]
  oversample := specOversample
  debounceN := specDebounceN
  lfsrTaps := specLfsrTaps

end Sys2Proof
end

