-- ==== Sys2Proof/Machine/State.lean ====
section
/-! DEFINITION. The architectural state of the block, `Registers`: the fifteen registers of spec/10_state.md R30 and
nothing else. The machine, `State`, is those registers with what the host's interface leaves no other place for: the
configuration the block is built with, and the model's own record of what the environment still requests and of what
the block has put out. The reasons a step can stop; the state after RESET. -/
namespace Sys2Proof.Machine

/-- The block raises no exception (spec/60_exceptions.md R280: a step returns a next state, never a fault), so
there is no fault. Safe. -/
inductive Fault where
  deriving DecidableEq, Repr

/-- The reasons the model gives a situation no meaning. -/
inductive Refusal where
  /-- An operation without a meaning yet, by mnemonic. Raised by no arm of exec. Safe. -/
  | notModelled (mnemonic : String)
  /-- The configuration breaks a constraint of spec/00_scope.md R9. Raised by `step` and by `startRun`. Safe. -/
  | invalidConfig
  /-- `LoopRom(k, idx)` with `idx >= LOOP_LEN[k]` (spec/20_memory.md R72). Raised by LOOP0 to LOOP3, and by
  AUDIO_TICK in modes 0 to 3, in states no run reaches (R183). Safe. -/
  | loopIndexOutOfRange
  /-- An event trace that does not begin with RESET (spec/70_reset_and_hazards.md R311). Raised by `startRun`
  alone. Safe. -/
  | traceWithoutReset
  deriving DecidableEq, Repr

/-- The complete architectural state of the block: exactly the fifteen registers of R30 (BAND counted once), under the
spec's names. Parameters and ROM contents are no part of it (R30). -/
structure Registers where
  /-- MODE (R32). -/
  mode : BitVec 3
  /-- PENDING (R33). -/
  pending : Bool
  /-- POS (R34). -/
  pos : Word
  /-- PHASE (R35). -/
  phase : Word
  /-- INC (R36). -/
  inc : Word
  /-- LFSR (R37). -/
  lfsr : Word
  /-- BAND[0..7] (R38). -/
  band : Vector Byte 8
  /-- PINK_CTR (R39). -/
  pinkCtr : BitVec 7
  /-- VOL (R40). -/
  vol : Byte
  /-- DB_LEVEL (R41). -/
  dbLevel : Bool
  /-- DB_COUNT (R42). -/
  dbCount : Byte
  /-- RISE (R43). -/
  rise : Bool
  /-- FALL (R44). -/
  fall : Bool
  /-- TICK (R45). -/
  tick : Word
  /-- OUT (R46). -/
  out : Byte
  deriving DecidableEq, Repr

/-- The machine: the architectural state of R30, the configuration beside it, and the model's own record of the
environment. What an operation leaves in the registers depends on the registers and the configuration alone. -/
structure State extends Registers where
  /-- The configuration (R8): an argument of the model, written by no operation (R73). Log entry 1. -/
  cfg : Config
  /-- The model's own: the environment's inputs still to come, the next one first. Log entry 3. -/
  trace : List Input
  /-- The model's own: the operations of the current request still to be performed. Log entry 4. -/
  todo : List Instr
  /-- The model's own: the raw sample the last generator operation returned. Log entry 7. -/
  raw : Byte
  /-- The model's own: the samples emitted to the sink so far, oldest first (R235). Log entry 5. -/
  sink : List Byte
  /-- The model's own: the values sampled on the output `reached` so far, oldest first (R103). Log entry 6. -/
  reached : List Bool
  deriving DecidableEq, Repr

/-- The architectural state after RESET (R53, R310). -/
def Registers.reset : Registers where
  mode := 0
  pending := false
  pos := 0
  phase := 0
  inc := 0
  lfsr := 1
  band := Vector.replicate 8 0
  pinkCtr := 0
  vol := 0
  dbLevel := false
  dbCount := 0
  rise := false
  fall := false
  tick := 0
  out := 0

/-- The block with configuration `c` right after RESET, with nothing requested and nothing put out (R53, R310). -/
def State.resetWith (c : Config) : State where
  toRegisters := Registers.reset
  cfg := c
  trace := []
  todo := []
  raw := 0
  sink := []
  reached := []

/-- The state after RESET (R53), with the example configuration of spec/95_test_vectors.md section 0 (log entry 1). -/
def State.reset : State := State.resetWith exampleConfig

end Sys2Proof.Machine
end

