-- ==== Sys2Proof/Machine/Flags.lean ====
section
/-! DEFINITION. The three status flags (spec/10_state.md R49): PENDING, RISE and FALL, each set by one agent and
cleared by another (R33, R43, R44, R51; spec/70_reset_and_hazards.md R320). No arithmetic sets a flag. -/
namespace Sys2Proof.Machine

/-- Publish an accepted edge: RISE for a new level 1, FALL for a new level 0; sticky (R43, R44, R252). -/
def postEdge (level : Bool) (s : State) : State :=
  if level then { s with rise := true } else { s with fall := true }

/-- Consume RISE (R43). -/
def takeRise (s : State) : State := { s with rise := false }

/-- Consume FALL (R44). -/
def takeFall (s : State) : State := { s with fall := false }

/-- Set PENDING (R33). -/
def raisePending (s : State) : State := { s with pending := true }

/-- Clear PENDING (R33). -/
def takePending (s : State) : State := { s with pending := false }

end Sys2Proof.Machine
end

