-- ==== Sys2Proof/Machine/Operands.lean ====
section
/-! DEFINITION. How the operands of an operation are put together (spec/30_encoding.md R105): the select bus from
MODE, the ROM indexes from PHASE and POS, the preset number of a tone mode, the volume from the analog reading. -/
namespace Sys2Proof.Machine

/-- `msel[3:0] = {0, MODE[2:0]}` (R102). -/
def mselOf (mode : BitVec 3) : BitVec 4 := mode.setWidth 4

/-- The loop a loop mode plays, and none in modes 4 to 7 (R102, R186). -/
def loopOfMode (mode : BitVec 3) : Option (Fin 4) :=
  if h : mode.toNat < 4 then some ⟨mode.toNat, h⟩ else none

/-- MODE is a tone sub-mode: 4 or 5 (R17). -/
def isToneMode (mode : BitVec 3) : Bool := decide (mode = 4) || decide (mode = 5)

/-- The preset number `MODE - 4` of a tone sub-mode (R105, R231). -/
def tonePreset (mode : BitVec 3) : Nat := mode.toNat - 4

/-- `PHASE[31:24]`, the index into the sine ROM (R132). -/
def sineIndex (phase : Word) : Byte := phase.extractLsb' 24 8

/-- `POS / F`, the index into a loop ROM (R181). -/
def loopIndex (oversample : Nat) (pos : Word) : Nat := pos.toNat / oversample

/-- `VolumeSample(adc) = 255 - (adc >> 4)` (R255). -/
def volumeSample (adc : BitVec 12) : Byte := BitVec.ofNat 8 (255 - adc.toNat / 2 ^ 4)

end Sys2Proof.Machine
end

