-- ==== Sys2Proof/Machine/Ops.lean ====
section
/-! DEFINITION. The shared operations on memory and state: the two ROM reads (spec/20_memory.md R71, R72), the
return of a raw sample, the delivery of a sample to the sink, and sequencing of partial operations.
The block takes no exception and returns from none (spec/60_exceptions.md R280, R285, R286): there is no such
operation to share. -/
namespace Sys2Proof.Machine

/-- `floor(2^24 * sin(2*pi*i/256))` for i = 0 to 64: a quarter wave (R71). Log entry 14. -/
def sineQuarter : List Nat :=
  [0, 411733, 823218, 1234208, 1644454, 2053710, 2461728, 2868264] ++
  [3273072, 3675908, 4076530, 4474697, 4870168, 5262706, 5652073, 6038036] ++
  [6420362, 6798821, 7173184, 7543226, 7908724, 8269459, 8625212, 8975770] ++
  [9320921, 9660458, 9994175, 10321873, 10643353, 10958421, 11266889, 11568570] ++
  [11863283, 12150849, 12431097, 12703856, 12968963, 13226258, 13475586, 13716797] ++
  [13949745, 14174290, 14390298, 14597637, 14796183, 14985817, 15166423, 15337894] ++
  [15500126, 15653021, 15796488, 15930439, 16054794, 16169479, 16274423, 16369565] ++
  [16454846, 16530215, 16595627, 16651043, 16696429, 16731757, 16757007, 16772163] ++
  [16777216]

/-- The entry of the quarter wave for an index of the half wave, 0 to 127: the wave rises to index 64 and falls
back (R71). -/
def sineHalf (r : Nat) : Nat := sineQuarter.getD (if r ≤ 64 then r else 128 - r) 0

/-- `SINE_ROM[i] = floor(128 + A*sin(2*pi*i/256))` (R71). The scaled quarter wave is rounded down, so on the
lower half wave the product is rounded up before it is subtracted. DEDUCED, log entry 14. -/
def sineRom (ampl : Nat) (i : Byte) : Byte :=
  let m := ampl * sineHalf (i.toNat % 128)
  if i.toNat < 128 then BitVec.ofNat 8 (128 + m / 2 ^ 24)
  else BitVec.ofNat 8 (128 - (m + (2 ^ 24 - 1)) / 2 ^ 24)

/-- `LoopRom(k, idx)`; nothing where `idx >= LOOP_LEN[k]` (R72). -/
def loopRom (c : Config) (k : Fin 4) (idx : Nat) : Option Byte :=
  if idx < (c.loop k).len then some (Memory.read (c.loop k).data idx) else none

/-- A generator operation returns its raw sample (R17). -/
def returnRaw (v : Byte) (s : State) : State := { s with raw := v }

/-- `OUT <- v; emit Sink(v)` (R234). -/
def emitSample (v : Byte) (s : State) : State := { s with out := v, sink := s.sink ++ [v] }

/-- `reached` is sampled (R103). -/
def sampleReached (b : Bool) (s : State) : State := { s with reached := s.reached ++ [b] }

/-- Go on with `f` from the next state; a stop stays. -/
def andThen (o : Host.Outcome State Fault Refusal) (f : State → Host.Outcome State Fault Refusal) :
    Host.Outcome State Fault Refusal :=
  match o with
  | .next t => f t
  | .fault r => .fault r
  | .refused r => .refused r

end Sys2Proof.Machine
end

