-- ==== Sys2Proof/Machine/Loop.lean ====
section
/-! DEFINITION. The loop player: LOOP0 to LOOP3 over one datapath (spec/42_loop_mux.md R180 to R184, R187 to
R190), and SILENCE (R185). -/
namespace Sys2Proof.Machine

/-- `LOOP_BIAS`, the bias flip of a loop byte (R8, R181). -/
def loopBias : Byte := 0x80

/-- POS after one step of loop k: 0 after the last position, the next one otherwise; exact arithmetic (R182). -/
def nextPos (c : Config) (k : Fin 4) (pos : Word) : Word :=
  if c.loopSpan k ≤ pos.toNat + 1 then 0 else pos + 1

/-- The state after the byte `v` was read by loop k (R182). -/
def loopAdvance (k : Fin 4) (v : Byte) (s : State) : State :=
  { returnRaw (v ^^^ loopBias) s with pos := nextPos s.cfg k s.pos }

/-- `LoopStep(k)` (R182): the byte at the position before the increment. A read outside the ROM has no meaning
(R72). -/
def loopStep (k : Fin 4) (s : State) : Host.Outcome State Fault Refusal :=
  match loopRom s.cfg k (loopIndex s.cfg.oversample s.pos) with
  | some v => .next (loopAdvance k v s)
  | none => .refused .loopIndexOutOfRange

/-- LOOP0 (R187). -/
def execLoop0 (s : State) : Host.Outcome State Fault Refusal := loopStep 0 s

/-- LOOP1 (R188). -/
def execLoop1 (s : State) : Host.Outcome State Fault Refusal := loopStep 1 s

/-- LOOP2 (R189). -/
def execLoop2 (s : State) : Host.Outcome State Fault Refusal := loopStep 2 s

/-- LOOP3 (R190). -/
def execLoop3 (s : State) : Host.Outcome State Fault Refusal := loopStep 3 s

/-- SILENCE (R185): the raw sample 0, and no register written. -/
def execSilence (s : State) : Host.Outcome State Fault Refusal := .next (returnRaw 0 s)

end Sys2Proof.Machine
end

