-- ==== Sys2Proof/Machine/Noise.lean ====
section
/-! DEFINITION. The noise generators: the 32-bit shift register, WNOISE, the pink band filter and PNOISE
(spec/41_noise.md R150 to R159). -/
namespace Sys2Proof.Machine

/-- The XOR of the lowest `n` bits of `v`. -/
def parityBelow (v : Word) : Nat → Bool
  | 0 => false
  | n + 1 => (parityBelow v n).xor (v.getLsbD n)

/-- `parity(v)`: the XOR of all bits of v (R13). -/
def parity (v : Word) : Bool := parityBelow v 32

/-- `LfsrStep()` (R151): shift left by one, the new bit 0 the parity of the tap bits of the old value. -/
def lfsrStep (taps l : Word) : Word := BitVec.concat (l.setWidth 31) (parity (l &&& taps))

/-- `n` single-bit steps. -/
def lfsrSteps (taps : Word) : Nat → Word → Word
  | 0, l => l
  | n + 1, l => lfsrSteps taps n (lfsrStep taps l)

/-- LFSR after `WhiteByte()`: eight single-bit steps (R153, `WHITE_STEPS`). -/
def whiteNext (taps l : Word) : Word := lfsrSteps taps 8 l

/-- The byte `WhiteByte()` returns: the low 8 bits of the register after the steps (R153). -/
def whiteByte (taps l : Word) : Byte := (whiteNext taps l).setWidth 8

/-- WNOISE's state change (R154). -/
def whiteStep (s : State) : State :=
  { returnRaw (whiteByte s.cfg.lfsrTaps s.lfsr) s with lfsr := whiteNext s.cfg.lfsrTaps s.lfsr }

/-- WNOISE (R154). -/
def execWnoise (s : State) : Host.Outcome State Fault Refusal := .next (whiteStep s)

/-- `PINK_WRAP_INDEX` (R8, D10). -/
def pinkWrapIndex : Fin 8 := 7

/-- `PinkIndex(n)` (R157): the index of the lowest 1 bit of the counter's next value, or the designated index
when the counter wraps to zero. -/
def pinkIndex (n : BitVec 7) : Fin 8 :=
  if n.getLsbD 0 then 0
  else if n.getLsbD 1 then 1
  else if n.getLsbD 2 then 2
  else if n.getLsbD 3 then 3
  else if n.getLsbD 4 then 4
  else if n.getLsbD 5 then 5
  else if n.getLsbD 6 then 6
  else pinkWrapIndex

/-- The exact sum of the eight bands, 0 to 2040 (R156). -/
def bandSum (b : Vector Byte 8) : Nat :=
  (b.get 0).toNat + (b.get 1).toNat + (b.get 2).toNat + (b.get 3).toNat +
  (b.get 4).toNat + (b.get 5).toNat + (b.get 6).toNat + (b.get 7).toNat

/-- BAND after a PNOISE: band `PinkIndex(n)` holds the fresh byte (R156). -/
def refreshedBand (s : State) : Vector Byte 8 :=
  s.band.set (pinkIndex (s.pinkCtr + 1)) (whiteByte s.cfg.lfsrTaps s.lfsr)

/-- PNOISE's state change (R156). -/
def pinkStep (s : State) : State :=
  { returnRaw (BitVec.ofNat 8 (bandSum (refreshedBand s) / 2 ^ 4)) s with
    band := refreshedBand s
    pinkCtr := s.pinkCtr + 1
    lfsr := whiteNext s.cfg.lfsrTaps s.lfsr }

/-- PNOISE (R156). -/
def execPnoise (s : State) : Host.Outcome State Fault Refusal := .next (pinkStep s)

end Sys2Proof.Machine
end

