-- ==== Sys2Proof/Machine/Tone.lean ====
section
/-! DEFINITION. The tone synthesizer: TONE0 and TONE1 over one datapath (spec/40_tone_synth.md R130 to R137). -/
namespace Sys2Proof.Machine

/-- `ToneStep()` (R132): the sample at the phase before the increment, then `PHASE <- PHASE +_32 INC`. -/
def toneStep (s : State) : State :=
  { returnRaw (sineRom s.cfg.toneAmpl (sineIndex s.phase)) s with phase := s.phase + s.inc }

/-- TONE0 (R133). -/
def execTone0 (s : State) : Host.Outcome State Fault Refusal := .next (toneStep s)

/-- TONE1 (R134). -/
def execTone1 (s : State) : Host.Outcome State Fault Refusal := .next (toneStep s)

end Sys2Proof.Machine
end

