-- ==== Sys2Proof/Machine/Audio.lean ====
section
/-! DEFINITION. AUDIO_TICK and its four steps: the pending update, the multiplexer, the volume scaler, the sink
(spec/44_audio_tick.md R230 to R236; spec/42_loop_mux.md R186). -/
namespace Sys2Proof.Machine

/-- `PendingStep()` (R231). -/
def pendingStep (s : State) : State :=
  if s.pending then
    { takePending s with
      pos := 0
      phase := 0
      inc := if isToneMode s.mode then s.cfg.freqWord (tonePreset s.mode) else s.inc }
  else s

/-- `MuxSelect(m)` (R186) on the select bus: exactly one generator operation runs, once (R232). -/
def muxSelect (msel : BitVec 4) (s : State) : Host.Outcome State Fault Refusal :=
  match decodeMsel msel with
  | .loop0 => execLoop0 s
  | .loop1 => execLoop1 s
  | .loop2 => execLoop2 s
  | .loop3 => execLoop3 s
  | .tone0 => execTone0 s
  | .tone1 => execTone1 s
  | .wnoise => execWnoise s
  | .pnoise => execPnoise s
  | .silence => execSilence s

/-- `Scale(raw, vol)` (R233): the exact product, shifted right by 8. -/
def scale (raw vol : Byte) : Byte := BitVec.ofNat 8 (raw.toNat * vol.toNat / 2 ^ 8)

/-- AUDIO_TICK (R230): pending update, dispatch on MODE, scale, deliver. -/
def execAudioTick (s : State) : Host.Outcome State Fault Refusal :=
  andThen (muxSelect (mselOf s.mode) (pendingStep s)) fun t => .next (emitSample (scale t.raw t.vol) t)

end Sys2Proof.Machine
end

