-- ==== Sys2Proof/Machine/Control.lean ====
section
/-! DEFINITION. RESET (spec/70_reset_and_hazards.md R310) and IDLE (spec/30_encoding.md R104). -/
namespace Sys2Proof.Machine

/-- Every register of R30 at its reset value; the configuration, the trace and what was put out are not registers
and stay (R310: nothing is emitted). Log entry 8. -/
def resetRegisters (s : State) : State :=
  { s with
    mode := 0, pending := false, pos := 0, phase := 0, inc := 0
    lfsr := 1, band := Vector.replicate 8 0, pinkCtr := 0
    vol := 0, dbLevel := false, dbCount := 0, rise := false, fall := false
    tick := 0, out := 0 }

/-- RESET (R310). -/
def execReset (s : State) : Host.Outcome State Fault Refusal := .next (resetRegisters s)

/-- IDLE (R104): no operation. -/
def execIdle (s : State) : Host.Outcome State Fault Refusal := .next s

end Sys2Proof.Machine
end

