-- ==== Sys2Proof/Machine/Mode.lean ====
section
/-! DEFINITION. The mode state machine, FG_POLL (spec/43_mode_fsm.md R210 to R214). -/
namespace Sys2Proof.Machine

/-- The mode advance: `MODE <- (MODE + 1) mod 8` (R211). -/
def advanceMode (s : State) : State := { s with mode := s.mode + 1 }

/-- FG_POLL on RISE (R211). -/
def pollRise (s : State) : State := if s.rise then raisePending (advanceMode (takeRise s)) else s

/-- FG_POLL on FALL (R211). -/
def pollFall (s : State) : State := if s.fall then takeFall s else s

/-- FG_POLL (R211). -/
def execFgPoll (s : State) : Host.Outcome State Fault Refusal := .next (pollFall (pollRise s))

end Sys2Proof.Machine
end

