-- ==== Sys2Proof/Machine/Service.lean ====
section
/-! DEFINITION. SERVICE_TICK (debounce, volume, tick counter) and DEADLINE_CHECK (spec/45_tick_debounce.md R250 to
R259). -/
namespace Sys2Proof.Machine

/-- `DebounceStep(b)` (R252): a sample equal to the stable level clears the count; the N-th consecutive other
sample is accepted as the new level and its edge published. -/
def debounceStep (b : Bool) (s : State) : State :=
  if b = s.dbLevel then { s with dbCount := 0 }
  else if s.cfg.debounceN ≤ s.dbCount.toNat + 1 then postEdge b { s with dbLevel := b, dbCount := 0 }
  else { s with dbCount := s.dbCount + 1 }

/-- `VOL <- VolumeSample(adc)` (R255). -/
def volumeStep (adc : BitVec 12) (s : State) : State := { s with vol := volumeSample adc }

/-- `TICK <- TICK +_32 1` (R256). -/
def tickStep (s : State) : State := { s with tick := s.tick + 1 }

/-- SERVICE_TICK (R250). -/
def execServiceTick (btn : Bool) (adc : BitVec 12) (s : State) : Host.Outcome State Fault Refusal :=
  .next (tickStep (volumeStep adc (debounceStep btn s)))

/-- The deadline comparator (R258): the 32-bit difference, read as signed, is not negative. -/
def deadlineReached (tick goal : Word) : Bool := decide (0 ≤ (tick - goal).toInt)

/-- DEADLINE_CHECK (R258): `reached` is sampled and no register is written (R103). -/
def execDeadlineCheck (goal : Word) (s : State) : Host.Outcome State Fault Refusal :=
  .next (sampleReached (deadlineReached s.tick goal) s)

end Sys2Proof.Machine
end

