-- ==== Sys2Proof/Machine/Dispatch.lean ====
section
/-! DEFINITION. The dispatch: one arm per operation, each one call of its meaning. -/
namespace Sys2Proof.Machine

/-- One operation on one state: one atomic transition (spec/00_scope.md R11). -/
def exec (i : Instr) (s : State) : Host.Outcome State Fault Refusal :=
  match i with
  | .reset => Sys2Proof.Machine.execReset s
  | .audioTick => Sys2Proof.Machine.execAudioTick s
  | .serviceTick btn adc => Sys2Proof.Machine.execServiceTick btn adc s
  | .fgPoll => Sys2Proof.Machine.execFgPoll s
  | .idle => Sys2Proof.Machine.execIdle s
  | .deadlineCheck goal => Sys2Proof.Machine.execDeadlineCheck goal s
  | .loop0 => Sys2Proof.Machine.execLoop0 s
  | .loop1 => Sys2Proof.Machine.execLoop1 s
  | .loop2 => Sys2Proof.Machine.execLoop2 s
  | .loop3 => Sys2Proof.Machine.execLoop3 s
  | .tone0 => Sys2Proof.Machine.execTone0 s
  | .tone1 => Sys2Proof.Machine.execTone1 s
  | .wnoise => Sys2Proof.Machine.execWnoise s
  | .pnoise => Sys2Proof.Machine.execPnoise s
  | .silence => Sys2Proof.Machine.execSilence s

end Sys2Proof.Machine
end

