-- ==== Sys2Proof/Machine/Fetch.lean ====
section
/-! DEFINITION. Which operation the block performs next (spec/00_scope.md R11; spec/30_encoding.md R106;
spec/60_exceptions.md R284), how a bare word of the opcode table is placed there for the host, and how a run
begins (spec/70_reset_and_hazards.md R311, R312). -/
namespace Sys2Proof.Machine

/-- The next operation and the state with it taken from what is to come: the rest of the current request first;
then the next input of the environment, decoded into its operations (R106); where the environment requests
nothing more, the empty request IDLE (R104). Log entries 3 and 4. -/
def fetch (s : State) : Instr × State :=
  match s.todo with
  | i :: rest => (i, { s with todo := rest })
  | [] =>
    match s.trace with
    | [] => (.idle, s)
    | x :: inputs =>
      match x.ops with
      | [] => (.idle, { s with trace := inputs })
      | i :: rest => (i, { s with trace := inputs, todo := rest })

/-- `s` with a bare word of the opcode table as the next thing it performs: a word read as a request or as the
comparator is the next input of the environment; a word read as the select bus, which the environment does not
drive, stands as the next operation (log entries 3 and 9). -/
def placeWord (s : State) (nbits w : Nat) : State :=
  match decodeTableWord nbits w with
  | none => s
  | some i =>
    match encode i with
    | .ev _ btn adc => { s with todo := [], trace := .request (BitVec.ofNat 4 w) btn adc :: s.trace }
    | .comb goal => { s with todo := [], trace := .deadline goal :: s.trace }
    | .msel _ => { s with todo := i :: s.todo }

/-- The trace begins with RESET (R311). -/
def startsWithReset : List Input → Bool
  | .request ev _ _ :: _ => ev.getLsbD 3
  | _ => false

/-- A run of an event trace on a block with configuration `c` begins (R312): the configuration must be one the
model gives a meaning to (R9) and the trace must begin with RESET (R311). `before` is the block before the first
RESET, whose registers are unspecified and may be anything; nothing has been put out. Log entry 11. -/
def startRun (before : State) (c : Config) (trace : List Input) : Host.Outcome State Fault Refusal :=
  if c.valid then
    if startsWithReset trace then
      .next { before with cfg := c, trace := trace, todo := [], sink := [], reached := [] }
    else .refused .traceWithoutReset
  else .refused .invalidConfig

end Sys2Proof.Machine
end

