-- ==== Sys2Proof/Machine/Step.lean ====
section
/-! DEFINITION. One step of the machine: one operation (spec/00_scope.md R11), in a configuration the model gives
a meaning to (R9). -/
namespace Sys2Proof.Machine

/-- One step: the next operation is performed. An invalid configuration has no meaning (R9). -/
def step (s : State) : Host.Outcome State Fault Refusal :=
  if s.cfg.valid then exec (fetch s).1 (fetch s).2 else .refused .invalidConfig

/-- `s` with the operation of a bare word of spec/opcode_table.json as the one the next step performs. -/
def State.withFetchWord (s : State) (nbits w : Nat) : State := placeWord s nbits w

end Sys2Proof.Machine
end

