-- ==== Sys2Proof/Safety.lean ====
section
/-! DEFINITION. The terms claims are stated in: sequences of operations, the registers by name, the agents and
what each may write (spec/10_state.md R51), and the invariant of reachable states (R52). -/
namespace Sys2Proof.Machine

/-- A sequence of operations performed one after the other, stopping at the first stop (R11). -/
def execAll : List Instr → State → Host.Outcome State Fault Refusal
  | [], s => .next s
  | i :: rest, s => andThen (exec i s) (execAll rest)

/-- `n` steps of the machine, stopping at the first stop. -/
def steps : Nat → State → Host.Outcome State Fault Refusal
  | 0, s => .next s
  | n + 1, s => andThen (step s) (steps n)

/-- LOOPk (R187 to R190). -/
def loopInstr : Fin 4 → Instr
  | 0 => .loop0
  | 1 => .loop1
  | 2 => .loop2
  | 3 => .loop3

/-- SERVICE_TICKs with the given samples, in order (R250). -/
def serviceOps (samples : List (Bool × BitVec 12)) : List Instr :=
  samples.map fun x => .serviceTick x.1 x.2

/-- The operation is SERVICE_TICK. -/
def isServiceTick : Instr → Bool
  | .serviceTick _ _ => true
  | .reset | .audioTick | .fgPoll | .idle | .deadlineCheck _ | .loop0 | .loop1 | .loop2 | .loop3 | .tone0 | .tone1
  | .wnoise | .pnoise | .silence => false

/-- The registers of R30, each band by itself. -/
inductive Register where
  | mode | pending | pos | phase | inc | lfsr
  | band (i : Fin 8)
  | pinkCtr | vol | dbLevel | dbCount | rise | fall | tick | out
  deriving DecidableEq, Repr

/-- The number a register holds (R12). -/
def Registers.read (s : Registers) : Register → Nat
  | .mode => s.mode.toNat
  | .pending => s.pending.toNat
  | .pos => s.pos.toNat
  | .phase => s.phase.toNat
  | .inc => s.inc.toNat
  | .lfsr => s.lfsr.toNat
  | .band i => (s.band.get i).toNat
  | .pinkCtr => s.pinkCtr.toNat
  | .vol => s.vol.toNat
  | .dbLevel => s.dbLevel.toNat
  | .dbCount => s.dbCount.toNat
  | .rise => s.rise.toNat
  | .fall => s.fall.toNat
  | .tick => s.tick.toNat
  | .out => s.out.toNat

/-- The number a register of the machine holds. -/
def State.readReg (s : State) (r : Register) : Nat := s.toRegisters.read r

/-- What an outcome leaves in the architectural state of R30. -/
def registersOf : Host.Outcome State Fault Refusal → Host.Outcome Registers Fault Refusal
  | .next s => .next s.toRegisters
  | .fault r => .fault r
  | .refused r => .refused r

/-- The agents that change state (R10). -/
inductive Agent where
  | reset | audio | service | fg
  deriving DecidableEq, Repr

/-- The agent an operation belongs to; DEADLINE_CHECK and IDLE change no register and belong to none (R10). The
generator operations run inside AUDIO_TICK. -/
def agentOf : Instr → Option Agent
  | .reset => some .reset
  | .audioTick | .loop0 | .loop1 | .loop2 | .loop3 | .tone0 | .tone1 | .wnoise | .pnoise | .silence => some .audio
  | .serviceTick _ _ => some .service
  | .fgPoll => some .fg
  | .idle | .deadlineCheck _ => none

/-- The registers an agent may write: the ownership of R51 and the column "written by" of R30. -/
def Agent.mayWrite : Agent → Register → Bool
  | .reset, _ => true
  | .audio, .pending | .audio, .pos | .audio, .phase | .audio, .inc | .audio, .lfsr | .audio, .band _
  | .audio, .pinkCtr | .audio, .out => true
  | .service, .vol | .service, .tick | .service, .rise | .service, .fall | .service, .dbLevel
  | .service, .dbCount => true
  | .fg, .mode | .fg, .pending | .fg, .rise | .fg, .fall => true
  | .audio, _ | .service, _ | .fg, _ => false

/-- The operations the environment requests: the five events of R2 and IDLE, not the generator operations, which
only the multiplexer selects. -/
def topLevel : Instr → Bool
  | .reset | .audioTick | .serviceTick _ _ | .fgPoll | .idle | .deadlineCheck _ => true
  | .loop0 | .loop1 | .loop2 | .loop3 | .tone0 | .tone1 | .wnoise | .pnoise | .silence => false

/-- No read of a loop generator leaves its ROM: an update is pending, or the mode is no loop mode, or POS is a
position of the loop (R52 c). -/
def loopInRange (s : State) : Prop :=
  s.pending = true ∨ ∀ k : Fin 4, loopOfMode s.mode = some k → s.pos.toNat < s.cfg.loopSpan k

/-- The invariant of reachable states: (a) to (e) of R52 in a configuration R9 accepts, with the ROM contents in
canonical form and only operations the environment can request left over from a request. -/
structure Inv (s : State) : Prop where
  /-- The configuration has a meaning (R9). -/
  configValid : s.cfg.valid = true
  /-- The ROM contents are in canonical form. -/
  romsCanonical : s.cfg.romsWf = true
  /-- R52 (a). -/
  lfsrNonzero : s.lfsr ≠ 0
  /-- R52 (b). -/
  countBelow : s.dbCount.toNat < s.cfg.debounceN
  /-- R52 (c). -/
  posInRange : loopInRange s
  /-- R52 (d). -/
  incLoaded : isToneMode s.mode = true → s.pending = false → s.inc = s.cfg.freqWord (tonePreset s.mode)
  /-- R52 (e). -/
  outBelow : s.out.toNat ≤ 254
  /-- Only events are left over from a request. -/
  todoTopLevel : ∀ i ∈ s.todo, topLevel i = true

end Sys2Proof.Machine
end

