-- ==== Sys2Proof/Certificates/Slice0/Obligations.lean ====
section
/-! DEFINITION. The statements about the model, one for each rule or law of spec/ they formalise. In a conclusion
`exec i s = .next t ∧ t = { s with ... }` the fields named in the braces are the only ones that may differ: that is
the operation's frame, and it says of the configuration that every ROM entry reads as before. -/
open Sys2Proof Sys2Proof.Machine

/-! ### RESET and IDLE -/

/-- R310: from any state RESET writes every register as the rule lists, and emits nothing; the other request bits
are ignored; with the spec's F of 8 an AUDIO_TICK after it emits 0 and leaves POS 1, LFSR 1, MODE 0. -/
def Obligations.ResetWritesEveryRegister : Prop :=
  ∀ s : State,
    (∀ ev btn adc, ev.getLsbD 3 = true → decodeEv ev btn adc = [.reset]) ∧
    ∃ t, exec .reset s = .next t ∧
      t.mode = 0 ∧ t.pending = false ∧ t.pos = 0 ∧ t.phase = 0 ∧ t.inc = 0 ∧ t.lfsr = 1 ∧
      (∀ i, t.band.get i = 0) ∧ t.pinkCtr = 0 ∧ t.vol = 0 ∧ t.dbLevel = false ∧ t.dbCount = 0 ∧
      t.rise = false ∧ t.fall = false ∧ t.tick = 0 ∧ t.out = 0 ∧
      t.cfg = s.cfg ∧ t.sink = s.sink ∧
      (s.cfg.valid = true → s.cfg.oversample = 8 →
        ∃ u, exec .audioTick t = .next u ∧ u.sink = s.sink ++ [0] ∧ u.pos = 1 ∧ u.lfsr = 1 ∧ u.mode = 0)

/-- R53: the state after RESET holds in every register what RESET leaves there from any state, whatever the
configuration; the model's own fields keep their values, which is the model's choice (log entry 8). The
configuration State.reset itself carries is the model's choice too (log entry 1) and nothing is said of it. -/
def Obligations.ResetStateAgreesWithReset : Prop :=
  ∀ (s t : State) (c : Config) (r : Register), exec .reset s = .next t →
    t.readReg r = (State.resetWith c).readReg r ∧ t.readReg r = State.reset.readReg r ∧
    (t.readReg r = if r = .lfsr then 1 else 0) ∧
    t.trace = s.trace ∧ t.todo = s.todo ∧ t.raw = s.raw ∧ t.reached = s.reached

/-- R104: IDLE completes and changes nothing, and `ev = 0000` is its only encoding. -/
def Obligations.IdleChangesNothing : Prop :=
  (∀ s : State, exec .idle s = .next s) ∧
  ∀ ev btn adc, decodeEv ev btn adc = [.idle] ↔ ev = 0

/-! ### SERVICE_TICK -/

/-- R250, R252: SERVICE_TICK completes; the debounce filter follows its rule, VOL is the inverted reading, TICK
advances by one modulo 2^32, and nothing else changes. -/
def Obligations.ServiceTickStepsFilterVolumeAndTick : Prop :=
  ∀ (s : State) (b : Bool) (adc : BitVec 12), s.cfg.debounceN ≤ 255 →
    ∃ t, exec (.serviceTick b adc) s = .next t ∧
      t = { s with dbLevel := t.dbLevel, dbCount := t.dbCount, rise := t.rise, fall := t.fall,
                   vol := t.vol, tick := t.tick } ∧
      t.vol.toNat = 255 - adc.toNat / 16 ∧
      t.tick.toNat = (s.tick.toNat + 1) % 2 ^ 32 ∧
      (b = s.dbLevel →
        t.dbLevel = s.dbLevel ∧ t.dbCount = 0 ∧ t.rise = s.rise ∧ t.fall = s.fall) ∧
      (b ≠ s.dbLevel → s.cfg.debounceN ≤ s.dbCount.toNat + 1 →
        t.dbLevel = b ∧ t.dbCount = 0 ∧ t.rise = (s.rise || b) ∧ t.fall = (s.fall || !b)) ∧
      (b ≠ s.dbLevel → s.dbCount.toNat + 1 < s.cfg.debounceN →
        t.dbLevel = s.dbLevel ∧ t.dbCount.toNat = s.dbCount.toNat + 1 ∧ t.rise = s.rise ∧ t.fall = s.fall)

/-- R255: the volume mapping is inverted, ignores the low 4 bits, is the complement of `adc[11:4]`, every
SERVICE_TICK overwrites VOL with it, and the AUDIO_TICK that follows scales by the new value. -/
def Obligations.VolumeIsInvertedReading : Prop :=
  (∀ (s : State) (b : Bool) (adc : BitVec 12), ∃ t, exec (.serviceTick b adc) s = .next t ∧
    t.vol.toNat = 255 - adc.toNat / 16 ∧ t.vol = ~~~(adc.extractLsb' 4 8) ∧
    ∀ u, exec .audioTick t = .next u → u.out.toNat = u.raw.toNat * (255 - adc.toNat / 16) / 256) ∧
  volumeSample 0 = 255 ∧ volumeSample 4095 = 0 ∧
  ∀ q r : Nat, q < 256 → r < 16 → (volumeSample (BitVec.ofNat 12 (16 * q + r))).toNat = 255 - q

/-- R256: a SERVICE_TICK adds one to TICK modulo 2^32, so that TICK counts the SERVICE_TICKs modulo 2^32, whatever
other operations but RESET run between. -/
def Obligations.TickCountsServiceTicks : Prop :=
  (∀ (s : State) (b : Bool) (adc : BitVec 12), ∃ t, exec (.serviceTick b adc) s = .next t ∧
    t.tick.toNat = if s.tick = 0xFFFFFFFF then 0 else s.tick.toNat + 1) ∧
  ∀ (ops : List Instr) (s t : State), .reset ∉ ops → execAll ops s = .next t →
    t.tick.toNat = (s.tick.toNat + ops.countP isServiceTick) % 2 ^ 32

/-- R253 (a), for either level: N samples of the other level from a count of 0 are accepted and flagged; N - 1 are
not, and leave the count at N - 1. -/
def Obligations.DebounceAcceptsNthSample : Prop :=
  ∀ (s : State) (samples : List (Bool × BitVec 12)),
    1 ≤ s.cfg.debounceN → s.cfg.debounceN ≤ 255 → s.dbCount = 0 → (∀ x ∈ samples, x.1 = !s.dbLevel) →
    ∃ t, execAll (serviceOps samples) s = .next t ∧
      (samples.length = s.cfg.debounceN →
        t.dbLevel = !s.dbLevel ∧ t.dbCount = 0 ∧ t.rise = (s.rise || !s.dbLevel) ∧ t.fall = (s.fall || s.dbLevel)) ∧
      (samples.length < s.cfg.debounceN →
        t.dbLevel = s.dbLevel ∧ t.dbCount.toNat = samples.length ∧ t.rise = s.rise ∧ t.fall = s.fall)

/-- R253 (b): a run of fewer than N samples of the other level, ended by one sample of the current level, leaves
the filter as it was. -/
def Obligations.DebounceRejectsGlitches : Prop :=
  ∀ (s : State) (samples : List (Bool × BitVec 12)) (adc : BitVec 12),
    s.cfg.debounceN ≤ 255 → s.dbCount = 0 → (∀ x ∈ samples, x.1 = !s.dbLevel) →
    samples.length < s.cfg.debounceN →
    ∃ t, execAll (serviceOps (samples ++ [(s.dbLevel, adc)])) s = .next t ∧
      t.dbLevel = s.dbLevel ∧ t.dbCount = 0 ∧ t.rise = s.rise ∧ t.fall = s.fall

/-- R253 (c): right after a rising edge was accepted and consumed, fewer than 2N samples set no second RISE; and the
same for a falling edge and FALL. -/
def Obligations.SameEdgesAreTwoRunsApart : Prop :=
  ∀ (s : State) (samples : List (Bool × BitVec 12)),
    1 ≤ s.cfg.debounceN → s.cfg.debounceN ≤ 255 → s.dbCount = 0 → samples.length < 2 * s.cfg.debounceN →
    ∃ t, execAll (serviceOps samples) s = .next t ∧
      (s.dbLevel = true → s.rise = false → t.rise = false) ∧
      (s.dbLevel = false → s.fall = false → t.fall = false)

/-! ### FG_POLL -/

/-- R211: `ev[0]` without `ev[3]` requests FG_POLL, last; it consumes both flags; RISE advances MODE by one modulo 8
and sets PENDING, FALL does nothing more; nothing else changes; and no operation but FG_POLL and RESET writes MODE. -/
def Obligations.FgPollConsumesEdges : Prop :=
  (∀ ev btn adc, ev.getLsbD 3 = false → ev.getLsbD 0 = true → (decodeEv ev btn adc).getLast? = some .fgPoll) ∧
  (∀ s : State, ∃ t, exec .fgPoll s = .next t ∧
    t = { s with rise := t.rise, fall := t.fall, mode := t.mode, pending := t.pending } ∧
    t.rise = false ∧ t.fall = false ∧
    (s.rise = true → t.mode.toNat = (s.mode.toNat + 1) % 8 ∧ t.pending = true) ∧
    (s.rise = false → t.mode = s.mode ∧ t.pending = s.pending)) ∧
  ∀ (i : Instr) (s t : State), exec i s = .next t → i ≠ .fgPoll → i ≠ .reset → t.mode = s.mode

/-- R213: eight polls that each find RISE set bring MODE back to where it was and leave PENDING set, whatever
happens to the other registers between them; and a poll that finds RISE clear changes neither MODE nor PENDING,
whatever FALL holds. -/
def Obligations.EightRisingEdgesReturnMode : Prop :=
  (∀ f g : Nat → State,
    (∀ n < 8, (f n).rise = true ∧ exec .fgPoll (f n) = .next (g n)) →
    (∀ n < 7, (f (n + 1)).mode = (g n).mode) →
    (g 7).mode = (f 0).mode ∧ (g 7).pending = true) ∧
  ∀ s : State, s.rise = false → ∃ t, exec .fgPoll s = .next t ∧ t.mode = s.mode ∧ t.pending = s.pending

/-- R110: `NEXT adc` from a settled filter with RISE clear advances MODE by one, sets PENDING, adds 2N to TICK and
leaves the debounce state as it found it. The machine runs it from its trace, one operation a step: that form of a run
is the model's choice (log entries 3 and 4). -/
def Obligations.NextAdvancesMode : Prop :=
  ∀ (s : State) (adc : Nat) (rest : List Input),
    s.cfg.valid = true → s.dbLevel = false → s.dbCount = 0 → s.rise = false → s.todo = [] →
    s.trace = (Event.next adc).inputs s.cfg.debounceN ++ rest →
    ∃ t, steps (2 * s.cfg.debounceN + 2) s = .next t ∧
      t.mode.toNat = (s.mode.toNat + 1) % 8 ∧ t.pending = true ∧
      t.dbLevel = false ∧ t.dbCount = 0 ∧ t.rise = false ∧ t.fall = false ∧
      t.tick.toNat = (s.tick.toNat + 2 * s.cfg.debounceN) % 2 ^ 32 ∧
      t.todo = [] ∧ t.trace = rest ∧ t.sink = s.sink ∧ t.cfg = s.cfg

/-- R214: two accepted rising edges between two polls advance MODE by one. -/
def Obligations.EdgesCoalesceBetweenPolls : Prop :=
  ∀ (s : State) (up down again : List (Bool × BitVec 12)),
    1 ≤ s.cfg.debounceN → s.cfg.debounceN ≤ 255 → s.dbLevel = false → s.dbCount = 0 →
    up.length = s.cfg.debounceN → down.length = s.cfg.debounceN → again.length = s.cfg.debounceN →
    (∀ x ∈ up, x.1 = true) → (∀ x ∈ down, x.1 = false) → (∀ x ∈ again, x.1 = true) →
    ∃ t u, execAll (serviceOps (up ++ down ++ again)) s = .next t ∧
      t.rise = true ∧ t.fall = true ∧ t.dbLevel = true ∧ t.mode = s.mode ∧
      exec .fgPoll t = .next u ∧ u.mode.toNat = (s.mode.toNat + 1) % 8 ∧ u.rise = false ∧ u.fall = false

/-! ### The tone synthesizer -/

/-- R132: TONE0 and TONE1 return the sine entry at `PHASE[31:24]` before the update, add INC to PHASE modulo 2^32,
and change nothing else; from PHASE 0 the sample is 128. -/
def Obligations.ToneReturnsSampleThenAdvances : Prop :=
  ∀ (s : State) (i : Instr), i = .tone0 ∨ i = .tone1 →
    ∃ t, exec i s = .next t ∧ t = { s with raw := t.raw, phase := t.phase } ∧
      t.raw = sineRom s.cfg.toneAmpl (BitVec.ofNat 8 (s.phase.toNat / 2 ^ 24)) ∧
      t.phase.toNat = (s.phase.toNat + s.inc.toNat) % 2 ^ 32 ∧
      (s.phase = 0 → t.raw = 128)

/-- R135: after N tone operations PHASE is `(p + N*F) mod 2^32`, and the n-th of them (n from 0), after the `before`
ones, returned the sine entry at `((p + n*F) mod 2^32) >> 24`. -/
def Obligations.TonePhaseClosedForm : Prop :=
  ∀ (s : State) (before : List Instr) (i : Instr), (∀ j ∈ i :: before, j = .tone0 ∨ j = .tone1) →
    ∃ t, execAll (before ++ [i]) s = .next t ∧
      t.phase.toNat = (s.phase.toNat + (before.length + 1) * s.inc.toNat) % 2 ^ 32 ∧
      t.raw = sineRom s.cfg.toneAmpl
        (BitVec.ofNat 8 ((s.phase.toNat + before.length * s.inc.toNat) % 2 ^ 32 / 2 ^ 24))

/-- R71: for every amplitude 1 to 127 the sine ROM holds `floor(128 + A*sin(2*pi*i/256))` over the reals, every
entry is 1 to 255, and the four exact entries are as the rule says. -/
def Obligations.SineRomIsFloorOfSine : Prop :=
  ∀ ampl : Nat, 1 ≤ ampl → ampl ≤ 127 →
    (∀ i : Byte, ((sineRom ampl i).toNat : Int) =
        ⌊(128 : ℝ) + (ampl : ℝ) * Real.sin (2 * Real.pi * (i.toNat : ℝ) / 256)⌋ ∧
      1 ≤ (sineRom ampl i).toNat) ∧
    (sineRom ampl 0).toNat = 128 ∧ (sineRom ampl 64).toNat = 128 + ampl ∧
    (sineRom ampl 128).toNat = 128 ∧ (sineRom ampl 192).toNat = 128 - ampl

/-- R131: the frequency word is the floor of `2^32 * f / rate` and fits 32 bits where the tone is below the sample
rate; with a rate of 88000 the word of 440 Hz is 21474836. -/
def Obligations.FrequencyWordIsExactFloor : Prop :=
  (∀ (c : Config) (j : Nat), c.toneFreq j < c.sampleRate →
    ((c.freqWord j).toNat : Int) = ⌊(2 ^ 32 * (c.toneFreq j : ℚ)) / (c.sampleRate : ℚ)⌋) ∧
  ∀ c : Config, c.sampleRate = 88000 → (c.freqWord 0).toNat = 21474836

/-! ### The noise generators -/

/-- R151: one step shifts the register left by one, drops bit 31, and puts the XOR of the tap bits into bit 0: the
parity of the number of taps that read 1, and for the spec's taps the XOR of bits 31, 21, 1 and 0. -/
def Obligations.LfsrStepShiftsInParity : Prop :=
  (∀ taps l : Word,
    (∀ n, n < 31 → (lfsrStep taps l).getLsbD (n + 1) = l.getLsbD n) ∧
    ((lfsrStep taps l).getLsbD 0 = true ↔
      ((List.range 32).countP fun n => l.getLsbD n && taps.getLsbD n) % 2 = 1)) ∧
  ∀ l : Word, (lfsrStep 0x80200003 l).toNat =
    (2 * l.toNat + ((((l.getLsbD 31).xor (l.getLsbD 21)).xor (l.getLsbD 1)).xor (l.getLsbD 0)).toNat) % 2 ^ 32

/-- R152: with taps that contain bit 31 the step is a bijection with 0 as a fixed point, so from a nonzero state no
number of steps reaches 0. -/
def Obligations.LfsrNeverReachesZero : Prop :=
  ∀ taps : Word, taps.getLsbD 31 = true →
    Function.Bijective (lfsrStep taps) ∧ lfsrStep taps 0 = 0 ∧
    ∀ (n : Nat) (l : Word), l ≠ 0 → lfsrSteps taps n l ≠ 0

/-- R153, R154: WNOISE runs eight single-bit steps, returns the low 8 bits of the register after them, the register
becomes the old one shifted left by 8 with the byte in its low bits, and nothing else changes. -/
def Obligations.WnoiseShiftsInItsByte : Prop :=
  ∀ s : State, ∃ t, exec .wnoise s = .next t ∧ t = { s with raw := t.raw, lfsr := t.lfsr } ∧
    t.lfsr = (lfsrStep s.cfg.lfsrTaps)^[8] s.lfsr ∧
    t.raw.toNat = t.lfsr.toNat % 2 ^ 8 ∧
    t.lfsr.toNat = (s.lfsr.toNat * 2 ^ 8 + t.raw.toNat) % 2 ^ 32 ∧
    ∀ n, n < 8 → t.raw.getLsbD (7 - n) =
      (lfsrStep s.cfg.lfsrTaps ((lfsrStep s.cfg.lfsrTaps)^[n] s.lfsr)).getLsbD 0

/-- R156, R157, R159: PNOISE writes the one band the counter's next value selects (its lowest 1 bit, or band 7 at 0)
with the low byte of the register after eight steps, keeps the other seven, advances the counter modulo 128, returns
the sum of the eight bands after the write shifted right by 4, and changes nothing else. -/
def Obligations.PnoiseRefreshesOneBand : Prop :=
  ∀ s : State, ∃ (t : State) (idx : Fin 8), exec .pnoise s = .next t ∧
    t = { s with raw := t.raw, band := t.band, pinkCtr := t.pinkCtr, lfsr := t.lfsr } ∧
    t.pinkCtr.toNat = (s.pinkCtr.toNat + 1) % 128 ∧
    (t.pinkCtr = 0 → idx = 7) ∧
    (t.pinkCtr ≠ 0 → t.pinkCtr.getLsbD idx = true ∧ ∀ j, j < idx.val → t.pinkCtr.getLsbD j = false) ∧
    t.lfsr = (lfsrStep s.cfg.lfsrTaps)^[8] s.lfsr ∧
    (t.band.get idx).toNat = t.lfsr.toNat % 2 ^ 8 ∧
    (∀ j, j ≠ idx → t.band.get j = s.band.get j) ∧
    t.raw.toNat = (∑ j : Fin 8, (t.band.get j).toNat) / 16 ∧ t.raw.toNat ≤ 127

/-- R158: in any 128 consecutive calls, wherever the counter stands, the bands 0 to 7 are refreshed 64, 32, 16, 8,
4, 2, 1 and 1 times. -/
def Obligations.PinkRefreshCounts : Prop :=
  ∀ (ctr : BitVec 7) (i : Fin 8),
    ((List.range 128).countP fun c => pinkIndex (ctr + BitVec.ofNat 7 (c + 1)) = i) =
      #v[64, 32, 16, 8, 4, 2, 1, 1].get i

/-- R158: from a counter of 0, band 7 keeps its value through 127 calls, and call c leaves the counter at c. -/
def Obligations.BandSevenWaitsForTheWrap : Prop :=
  ∀ (s : State) (n : Nat), s.pinkCtr = 0 → n ≤ 127 →
    ∃ t, execAll (List.replicate n .pnoise) s = .next t ∧
      t.band.get 7 = s.band.get 7 ∧ t.pinkCtr.toNat = n ∧ t.lfsr = (lfsrStep s.cfg.lfsrTaps)^[8 * n] s.lfsr

/-! ### The loop player and SILENCE -/

/-- R182, R187 to R190: at a position of the loop LOOPk returns the stored byte at the position before the increment
with its top bit flipped, moves POS to the next position or to 0 after the last, and changes nothing else. -/
def Obligations.LoopReturnsByteThenAdvances : Prop :=
  ∀ (s : State) (k : Fin 4), s.pos.toNat < s.cfg.loopSpan k → s.cfg.loopSpan k ≤ 2 ^ 32 - 1 →
    ∃ t, exec (loopInstr k) s = .next t ∧ t = { s with raw := t.raw, pos := t.pos } ∧
      t.raw = Memory.read (s.cfg.loop k).data (s.pos.toNat / s.cfg.oversample) ^^^ 0x80 ∧
      t.pos.toNat = (if s.cfg.loopSpan k ≤ s.pos.toNat + 1 then 0 else s.pos.toNat + 1)

/-- R72: a loop operation whose index is outside its ROM is refused. -/
def Obligations.LoopOutsideRomIsRefused : Prop :=
  ∀ (s : State) (k : Fin 4), (s.cfg.loop k).len ≤ s.pos.toNat / s.cfg.oversample →
    exec (loopInstr k) s = .refused .loopIndexOutOfRange

/-- R184, with F for the spec's 8: from POS 0 the n-th LOOPk operation returns the entry `(n mod F*L) / F` with its
top bit flipped, and N operations leave POS at `N mod F*L`. -/
def Obligations.LoopPlaybackClosedForm : Prop :=
  ∀ (s : State) (k : Fin 4) (n : Nat), s.pos = 0 → 1 ≤ s.cfg.loopSpan k → s.cfg.loopSpan k ≤ 2 ^ 32 - 1 →
    ∃ t, execAll (List.replicate (n + 1) (loopInstr k)) s = .next t ∧
      t.pos.toNat = (n + 1) % s.cfg.loopSpan k ∧
      t.raw = Memory.read (s.cfg.loop k).data (n % s.cfg.loopSpan k / s.cfg.oversample) ^^^ 0x80

/-- R185: every select value of 8 or more is SILENCE; it returns 0 and changes no register, and the scaled sample is 0
at every volume. -/
def Obligations.SilenceReturnsZero : Prop :=
  (∀ s : State, exec .silence s = .next { s with raw := 0 }) ∧
  (∀ (w : BitVec 4) (s : State), 8 ≤ w.toNat →
    decode (.msel w) = [.silence] ∧ muxSelect w s = .next { s with raw := 0 }) ∧
  ∀ vol : Byte, scale 0 vol = 0

/-! ### AUDIO_TICK -/

/-- R233: the scaled sample is the exact product shifted right by 8; the laws of the rule. -/
def Obligations.ScaleTruncatesTheProduct : Prop :=
  ∀ raw vol : Byte,
    (scale raw vol).toNat = raw.toNat * vol.toNat / 256 ∧
    raw.toNat * vol.toNat ≤ 65025 ∧
    scale raw vol = (raw.setWidth 16 * vol.setWidth 16).extractLsb' 8 8 ∧
    scale raw 0 = 0 ∧ scale 0 vol = 0 ∧
    (scale raw vol).toNat ≤ raw.toNat ∧ (scale raw vol).toNat ≤ vol.toNat ∧
    (1 ≤ raw.toNat → (scale raw 255).toNat = raw.toNat - 1) ∧
    scale raw 128 = raw >>> 1 ∧ scale 255 255 = 254

/-- R230, R231: AUDIO_TICK is the pending update, then the generator MODE selects on the state that leaves, then the
scaler and the sink: where the generator operation answers `u`, the tick answers `u` with the scaled sample in OUT
and appended to what was emitted. -/
def Obligations.AudioTickRunsItsFourSteps : Prop :=
  ∀ s p u : State,
    (s.pending = false → p = s) →
    (s.pending = true → p = { s with
      pending := false, pos := 0, phase := 0,
      inc := if s.mode.toNat = 4 then s.cfg.freqWord 0 else if s.mode.toNat = 5 then s.cfg.freqWord 1 else s.inc }) →
    exec (decodeMsel (BitVec.ofNat 4 s.mode.toNat)).instr p = .next u →
    ∃ t, exec .audioTick s = .next t ∧ t = { u with out := t.out, sink := u.sink ++ [t.out] } ∧
      t.out.toNat = u.raw.toNat * s.vol.toNat / 256

/-- R230, R280: in a valid configuration, with the loop position in range, AUDIO_TICK completes: PENDING is clear,
exactly one sample is emitted, the raw one scaled by VOL, and the registers of the other agents keep their values. -/
def Obligations.AudioTickCompletes : Prop :=
  ∀ s : State, s.cfg.valid = true → loopInRange s →
    ∃ t, exec .audioTick s = .next t ∧
      t = { s with pending := false, pos := t.pos, phase := t.phase, inc := t.inc, lfsr := t.lfsr,
                   band := t.band, pinkCtr := t.pinkCtr, raw := t.raw, out := t.out, sink := s.sink ++ [t.out] } ∧
      t.out.toNat = t.raw.toNat * s.vol.toNat / 256

/-- R186, R231, R325: only the unit MODE selects changes, apart from the pending update: in a loop mode the tone,
noise and pink registers, in a tone mode POS and the noise registers, in a noise mode POS and PHASE keep their
values or are cleared by the update, and INC changes only by an update in a tone mode. -/
def Obligations.OtherGeneratorsKeepTheirRegisters : Prop :=
  ∀ s t : State, exec .audioTick s = .next t →
    (s.mode.toNat ≤ 3 → t.phase = (if s.pending then 0 else s.phase)) ∧
    (s.mode.toNat ≤ 5 → t.lfsr = s.lfsr) ∧
    (s.mode.toNat ≤ 6 → t.band = s.band ∧ t.pinkCtr = s.pinkCtr) ∧
    (4 ≤ s.mode.toNat → t.pos = (if s.pending then 0 else s.pos)) ∧
    (6 ≤ s.mode.toNat → t.phase = (if s.pending then 0 else s.phase)) ∧
    (s.mode ≠ 4 → s.mode ≠ 5 → t.inc = s.inc) ∧
    (s.pending = false → t.inc = s.inc)

/-- R236: MODE 4 with PENDING set at 88000 samples a second: after the tick INC and PHASE are 21474836, PENDING is
clear, the raw sample was 128 and the value emitted is `(128 * VOL) >> 8`. -/
def Obligations.EnteringToneModeStartsAtMidScale : Prop :=
  ∀ s : State, s.mode = 4 → s.pending = true → s.cfg.sampleRate = 88000 →
    ∃ t, exec .audioTick s = .next t ∧ t.inc.toNat = 21474836 ∧ t.phase.toNat = 21474836 ∧
      t.pending = false ∧ t.raw = 128 ∧ t.sink = s.sink ++ [t.out] ∧ t.out.toNat = 128 * s.vol.toNat / 256

/-- R231, R182: entering a loop mode plays the loop from its first entry, whatever POS held. -/
def Obligations.EnteringLoopModeStartsAtFirstEntry : Prop :=
  ∀ (s : State) (k : Fin 4), s.cfg.valid = true → s.mode.toNat = k.val → s.pending = true →
    ∃ t, exec .audioTick s = .next t ∧ t.pending = false ∧ t.phase = 0 ∧ t.inc = s.inc ∧
      t.raw = Memory.read (s.cfg.loop k).data 0 ^^^ 0x80 ∧
      t.pos.toNat = (if s.cfg.loopSpan k = 1 then 0 else 1)

/-- R235: the samples put out by a sequence of operations are one for each AUDIO_TICK in it, after those put out
before. -/
def Obligations.OneSamplePerAudioTick : Prop :=
  ∀ (ops : List Instr) (s t : State), execAll ops s = .next t →
    ∃ samples, t.sink = s.sink ++ samples ∧ samples.length = ops.count .audioTick

/-- R51: AUDIO_TICK neither reads nor writes what SERVICE and FG own alone: whatever DB_LEVEL, DB_COUNT, RISE, FALL
and TICK hold, it answers the same state but for those, and the same sample. -/
def Obligations.SampleIgnoresOtherAgentsRegisters : Prop :=
  ∀ (s : State) (level rise fall : Bool) (count : Byte) (tick : Word),
    exec .audioTick { s with dbLevel := level, dbCount := count, rise := rise, fall := fall, tick := tick } =
      andThen (exec .audioTick s) fun t =>
        .next { t with dbLevel := level, dbCount := count, rise := rise, fall := fall, tick := tick }

/-! ### DEADLINE_CHECK -/

/-- R258: DEADLINE_CHECK samples `reached`, which is whether the 32-bit difference read as signed is not negative,
that is whether its bit 31 is 0, and changes nothing else. -/
def Obligations.DeadlineCheckComparesDifference : Prop :=
  ∀ (s : State) (goal : Word), ∃ b : Bool,
    exec (.deadlineCheck goal) s = .next { s with reached := s.reached ++ [b] } ∧
    (b = true ↔ ((s.tick.toNat : Int) - goal.toNat) % 2 ^ 32 < 2 ^ 31) ∧
    b = !(s.tick - goal).getLsbD 31

/-- R259: a goal equal to TICK is reached; adding the same number to both changes nothing; n ticks past the goal it reads
reached for n up to 2^31 - 1 and not reached for n from 2^31 to 2^32 - 1. -/
def Obligations.DeadlineIsTranslationInvariant : Prop :=
  (∀ g : Word, deadlineReached g g = true) ∧
  (∀ t g k : Word, deadlineReached (t + k) (g + k) = deadlineReached t g) ∧
  ∀ (g : Word) (n : Nat),
    (n ≤ 2 ^ 31 - 1 → deadlineReached (g + BitVec.ofNat 32 n) g = true) ∧
    (2 ^ 31 ≤ n → n ≤ 2 ^ 32 - 1 → deadlineReached (g + BitVec.ofNat 32 n) g = false)

/-- R321: a goal set n ticks ahead, n at most 2^31 - 1, reads not reached until TICK arrives, reached for the next
2^31 ticks, and not reached again after that. -/
def Obligations.DeadlineHorizonIsHalfTheRange : Prop :=
  ∀ (start : Word) (n m : Nat), n ≤ 2 ^ 31 - 1 →
    (m < n → deadlineReached (start + BitVec.ofNat 32 m) (start + BitVec.ofNat 32 n) = false) ∧
    (n ≤ m → m < n + 2 ^ 31 → deadlineReached (start + BitVec.ofNat 32 m) (start + BitVec.ofNat 32 n) = true) ∧
    (n + 2 ^ 31 ≤ m → m < n + 2 ^ 32 →
      deadlineReached (start + BitVec.ofNat 32 m) (start + BitVec.ofNat 32 n) = false)

/-! ### Decoding and the order of operations -/

/-- R106: decoding `ev` yields RESET alone if bit 3 is set; otherwise the requested ones of AUDIO_TICK, SERVICE_TICK
with its sampled inputs, and FG_POLL, in that order. -/
def Obligations.EvDecodesInPriorityOrder : Prop :=
  ∀ (ev : BitVec 4) (btn : Bool) (adc : BitVec 12),
    (8 ≤ ev.toNat → decodeEv ev btn adc = [.reset]) ∧
    (1 ≤ ev.toNat → ev.toNat < 8 →
      (decodeEv ev btn adc).Sublist [.audioTick, .serviceTick btn adc, .fgPoll] ∧
      (.audioTick ∈ decodeEv ev btn adc ↔ ev.getLsbD 2 = true) ∧
      (.serviceTick btn adc ∈ decodeEv ev btn adc ↔ ev.getLsbD 1 = true) ∧
      (.fgPoll ∈ decodeEv ev btn adc ↔ ev.getLsbD 0 = true))

/-- R107, R102: the select values 0 to 7 are the eight generators of the table, the values 8 to 15 all are SILENCE,
and MODE, on the select bus with bit 3 at 0, never selects SILENCE. -/
def Obligations.MselSelectsOneGenerator : Prop :=
  (∀ w : BitVec 4, decodeMsel w =
    [Generator.loop0, .loop1, .loop2, .loop3, .tone0, .tone1, .wnoise, .pnoise].getD w.toNat .silence) ∧
  (∀ w : BitVec 4, decode (.msel w) = [(decodeMsel w).instr]) ∧
  ∀ mode : BitVec 3, (mselOf mode).toNat = mode.toNat ∧ decodeMsel (mselOf mode) ≠ .silence

/-- Decoding the encoding of an operation gives it back, with every operand, for every operation. -/
def Obligations.DecodeOfEncode : Prop :=
  ∀ i : Instr, decode (encode i) = [i]

/-- R101, R102: words written out from the spec's bit tables decode to the operations they stand for. -/
def Obligations.SpecWordsDecode : Prop :=
  decode (.ev 0b1000 false 0) = [.reset] ∧
  decode (.ev 0b0111 true 0x000) = [.audioTick, .serviceTick true 0, .fgPoll] ∧
  decode (.ev 0b0010 true 0xFFF) = [.serviceTick true 0xFFF] ∧
  decode (.msel 0b0011) = [.loop3] ∧ decode (.msel 0b0101) = [.tone1] ∧
  decode (.msel 0b0111) = [.pnoise] ∧ decode (.msel 0b1010) = [.silence] ∧
  decode (.comb 0x80000003) = [.deadlineCheck 0x80000003]

/-- R11, R106: a step runs one operation whole. Which one it is, and where it stands, is the model's choice (log entries
3 and 4): the first of the rest of the current request, which waits in `todo`; or the first operation of the next input
of `trace`, the rest of that input's left in `todo`; or IDLE where nothing is left of the trace. -/
def Obligations.StepRunsDecodedOperation : Prop :=
  ∀ s : State, s.cfg.valid = true →
    (∀ i rest, s.todo = i :: rest → step s = exec i { s with todo := rest }) ∧
    (∀ x inputs i rest, s.todo = [] → s.trace = x :: inputs → x.ops = i :: rest →
      step s = exec i { s with trace := inputs, todo := rest }) ∧
    (s.todo = [] → s.trace = [] → step s = .next s)

/-- R11, R106, R284: running a trace step by step is performing the operations its inputs decode to, one after the
other, in order. That the inputs stand in `trace` and a request's leftovers in `todo` is the model's choice (log
entries 3 and 4). -/
def Obligations.RunsTheRequestedOperations : Prop :=
  ∀ (inputs rest : List Input) (s : State), s.cfg.valid = true → s.todo = [] → s.trace = inputs ++ rest →
    steps (inputs.flatMap Input.ops).length s =
      execAll (inputs.flatMap Input.ops) { s with trace := rest }

/-- The machine runs the encodings of the operations an environment can request as those operations: the trace of
their encodings, run step by step, is their sequence. The trace in the state is the model's choice (log entry 3). -/
def Obligations.RunsEncodedOperations : Prop :=
  ∀ (ops : List Instr) (inputs rest : List Input) (s : State), s.cfg.valid = true → s.todo = [] →
    inputs.map Input.bits = ops.map encode → s.trace = inputs ++ rest →
    steps ops.length s = execAll ops { s with trace := rest }

/-- R284: operations requested together run AUDIO_TICK, SERVICE_TICK, FG_POLL, each on the state the one before it
left: the sample uses the old VOL and the old MODE, and the poll sees the RISE the same request set; the new PENDING
is still set afterwards. That they take three steps is the model's choice (log entry 4). -/
def Obligations.SimultaneousRequestsKeepPriority : Prop :=
  ∀ (s : State) (b : Bool) (adc : BitVec 12) (rest : List Input),
    s.cfg.valid = true → loopInRange s → s.todo = [] → s.trace = .request 0b0111 b adc :: rest →
    ∃ t u v w, exec .audioTick { s with trace := rest } = .next t ∧
      exec (.serviceTick b adc) t = .next u ∧ exec .fgPoll u = .next v ∧
      steps 3 s = .next w ∧ w = v ∧
      w.out.toNat = t.raw.toNat * s.vol.toNat / 256 ∧ t.mode = s.mode ∧
      w.vol.toNat = 255 - adc.toNat / 16 ∧ w.pending = u.rise ∧ w.rise = false

/-- R9: a step in a configuration that breaks a constraint is refused. -/
def Obligations.InvalidConfigIsRefused : Prop :=
  ∀ s : State,
    (s.cfg.toneAmpl < 1 ∨ 127 < s.cfg.toneAmpl ∨
      (∃ k, (s.cfg.loop k).len = 0 ∨ 2 ^ 32 - 1 < (s.cfg.loop k).len * s.cfg.oversample) ∨
      s.cfg.debounceN = 0 ∨ 2 ^ 8 - 1 < s.cfg.debounceN ∨ s.cfg.sampleRate = 0 ∨
      (∃ j, j < 2 ∧ s.cfg.sampleRate ≤ s.cfg.toneFreq j) ∨ s.cfg.lfsrTaps.getLsbD 31 = false) →
    step s = .refused .invalidConfig

/-- R311: a run of a trace that does not begin with RESET is refused; where it begins, the first step leaves every
register at its reset value, whatever the block held before, in the configuration the run was given. How a run begins
and what its records hold then is the model's choice (log entries 3, 5 and 11). -/
def Obligations.RunBeginsWithReset : Prop :=
  ∀ (before : State) (c : Config) (trace : List Input), c.valid = true →
    (startsWithReset trace = false → startRun before c trace = .refused .traceWithoutReset) ∧
    (startsWithReset trace = true → ∃ s t, startRun before c trace = .next s ∧ step s = .next t ∧
      t.cfg = c ∧ t.trace = trace.tail ∧ t.todo = [] ∧ t.sink = [] ∧
      ∀ r, t.readReg r = (State.resetWith c).readReg r)

/-! ### Memory -/

/-- R73: no step changes an entry of a read-only space: the sine ROM, the four loop ROMs, and with them the frequency
words read the same after it. -/
def Obligations.RomContentsAreFixed : Prop :=
  ∀ s t : State, step s = .next t →
    (∀ (k : Fin 4) (idx : Nat), loopRom t.cfg k idx = loopRom s.cfg k idx) ∧
    (∀ i : Byte, sineRom t.cfg.toneAmpl i = sineRom s.cfg.toneAmpl i) ∧
    ∀ j : Nat, t.cfg.freqWord j = s.cfg.freqWord j

/-- R72, R312 (a): a loop ROM loaded with a list of bytes has their number as its length, reads each at its index and
has no meaning outside them. That its contents are in canonical form is the model's choice of representation (log
entry 13), of which the spec says nothing. -/
def Obligations.LoadedRomReadsItsBytes : Prop :=
  ∀ (c : Config) (k : Fin 4) (bytes : List Byte), c.loop k = LoopRom.ofBytes bytes →
    (c.loop k).len = bytes.length ∧ (c.loop k).wf = true ∧ ∀ idx, loopRom c k idx = bytes[idx]?

/-- The model's choice of representation (log entry 13), of which the spec says nothing: two loop ROMs in canonical form
that have the same length and read the same at every index are the same data. -/
def Obligations.CanonicalRomsAreExtensional : Prop :=
  ∀ a b : LoopRom, a.wf = true → b.wf = true → a.len = b.len →
    (∀ idx, idx < a.len → Memory.read a.data idx = Memory.read b.data idx) → a = b

/-! ### The whole machine -/

/-- R51, R30: an operation writes only the registers of its agent: every register that its agent may not write reads
after it as before, and IDLE and DEADLINE_CHECK write none. -/
def Obligations.AgentsWriteOnlyTheirRegisters : Prop :=
  ∀ (i : Instr) (s t : State), exec i s = .next t →
    ∀ r : Register, (∀ a, agentOf i = some a → a.mayWrite r = false) → t.readReg r = s.readReg r

/-- R52: the invariant holds right after RESET in every valid configuration with canonical ROM contents, and in the
model's own State.reset, whose configuration is the model's choice (log entry 1). Canonical ROM
contents are the model's choice of representation (log entry 13). -/
def Obligations.InvariantAfterReset : Prop :=
  (∀ c : Config, c.valid = true → c.romsWf = true → Inv (State.resetWith c)) ∧ Inv State.reset

/-- R52: every step that answers a next state keeps the invariant `Inv`: LFSR is nonzero, DB_COUNT is below N, a loop
mode without an update pending has POS inside its loop, a tone mode without one has its frequency word in INC, OUT is
at most 254. Beside R52, `Inv` says that the configuration is valid (R9), and of the model's own representation that the
ROM contents are canonical and only events are left over from a request (log entries 4 and 13). -/
def Obligations.StepKeepsInvariant : Prop :=
  ∀ s t : State, Inv s → step s = .next t → Inv t

/-- R280, R183: in every state of the invariant the machine takes a step, and so it runs for ever: no number of steps
stops. -/
def Obligations.NeverStops : Prop :=
  ∀ (s : State) (n : Nat), Inv s → ∃ t, steps n s = .next t ∧ Inv t

/-- R30, R50: the fifteen registers are the complete architectural state. In two machines with the same registers and
the same configuration, whatever the model's own records hold (log entries 3 to 7), an operation stops alike or leaves
the same registers, emits the same samples and answers the same on `reached`. -/
def Obligations.RegistersAreTheWholeState : Prop :=
  ∀ (i : Instr) (s u : State), s.toRegisters = u.toRegisters → s.cfg = u.cfg →
    registersOf (exec i s) = registersOf (exec i u) ∧
    ∀ t v, exec i s = .next t → exec i u = .next v →
      ∃ samples answers, t.sink = s.sink ++ samples ∧ v.sink = u.sink ++ samples ∧
        t.reached = s.reached ++ answers ∧ v.reached = u.reached ++ answers
end

