-- ==== Sys2Proof/Laws/State.lean ====
section
/-! SUPPORT. One lemma per field for each shared state change: the value it writes, or that it leaves the field as
it was. Each is true by unfolding the change once; later proofs cite these and unfold nothing. -/
namespace Sys2Proof.Machine

/-! ### The registers whole -/

@[simp] theorem returnRaw_toRegisters (v : Byte) (s : State) : (returnRaw v s).toRegisters = s.toRegisters := rfl
@[simp] theorem sampleReached_toRegisters (b : Bool) (s : State) : (sampleReached b s).toRegisters = s.toRegisters := rfl
theorem resetRegisters_toRegisters (s : State) : (resetRegisters s).toRegisters = Registers.reset := rfl

/-! ### returnRaw -/

@[simp] theorem returnRaw_mode (v : Byte) (s : State) : (returnRaw v s).mode = s.mode := rfl
@[simp] theorem returnRaw_pending (v : Byte) (s : State) : (returnRaw v s).pending = s.pending := rfl
@[simp] theorem returnRaw_pos (v : Byte) (s : State) : (returnRaw v s).pos = s.pos := rfl
@[simp] theorem returnRaw_phase (v : Byte) (s : State) : (returnRaw v s).phase = s.phase := rfl
@[simp] theorem returnRaw_inc (v : Byte) (s : State) : (returnRaw v s).inc = s.inc := rfl
@[simp] theorem returnRaw_lfsr (v : Byte) (s : State) : (returnRaw v s).lfsr = s.lfsr := rfl
@[simp] theorem returnRaw_band (v : Byte) (s : State) : (returnRaw v s).band = s.band := rfl
@[simp] theorem returnRaw_pinkCtr (v : Byte) (s : State) : (returnRaw v s).pinkCtr = s.pinkCtr := rfl
@[simp] theorem returnRaw_vol (v : Byte) (s : State) : (returnRaw v s).vol = s.vol := rfl
@[simp] theorem returnRaw_dbLevel (v : Byte) (s : State) : (returnRaw v s).dbLevel = s.dbLevel := rfl
@[simp] theorem returnRaw_dbCount (v : Byte) (s : State) : (returnRaw v s).dbCount = s.dbCount := rfl
@[simp] theorem returnRaw_rise (v : Byte) (s : State) : (returnRaw v s).rise = s.rise := rfl
@[simp] theorem returnRaw_fall (v : Byte) (s : State) : (returnRaw v s).fall = s.fall := rfl
@[simp] theorem returnRaw_tick (v : Byte) (s : State) : (returnRaw v s).tick = s.tick := rfl
@[simp] theorem returnRaw_out (v : Byte) (s : State) : (returnRaw v s).out = s.out := rfl
@[simp] theorem returnRaw_cfg (v : Byte) (s : State) : (returnRaw v s).cfg = s.cfg := rfl
@[simp] theorem returnRaw_trace (v : Byte) (s : State) : (returnRaw v s).trace = s.trace := rfl
@[simp] theorem returnRaw_todo (v : Byte) (s : State) : (returnRaw v s).todo = s.todo := rfl
@[simp] theorem returnRaw_raw (v : Byte) (s : State) : (returnRaw v s).raw = v := rfl
@[simp] theorem returnRaw_sink (v : Byte) (s : State) : (returnRaw v s).sink = s.sink := rfl
@[simp] theorem returnRaw_reached (v : Byte) (s : State) : (returnRaw v s).reached = s.reached := rfl

/-! ### emitSample -/

@[simp] theorem emitSample_mode (v : Byte) (s : State) : (emitSample v s).mode = s.mode := rfl
@[simp] theorem emitSample_pending (v : Byte) (s : State) : (emitSample v s).pending = s.pending := rfl
@[simp] theorem emitSample_pos (v : Byte) (s : State) : (emitSample v s).pos = s.pos := rfl
@[simp] theorem emitSample_phase (v : Byte) (s : State) : (emitSample v s).phase = s.phase := rfl
@[simp] theorem emitSample_inc (v : Byte) (s : State) : (emitSample v s).inc = s.inc := rfl
@[simp] theorem emitSample_lfsr (v : Byte) (s : State) : (emitSample v s).lfsr = s.lfsr := rfl
@[simp] theorem emitSample_band (v : Byte) (s : State) : (emitSample v s).band = s.band := rfl
@[simp] theorem emitSample_pinkCtr (v : Byte) (s : State) : (emitSample v s).pinkCtr = s.pinkCtr := rfl
@[simp] theorem emitSample_vol (v : Byte) (s : State) : (emitSample v s).vol = s.vol := rfl
@[simp] theorem emitSample_dbLevel (v : Byte) (s : State) : (emitSample v s).dbLevel = s.dbLevel := rfl
@[simp] theorem emitSample_dbCount (v : Byte) (s : State) : (emitSample v s).dbCount = s.dbCount := rfl
@[simp] theorem emitSample_rise (v : Byte) (s : State) : (emitSample v s).rise = s.rise := rfl
@[simp] theorem emitSample_fall (v : Byte) (s : State) : (emitSample v s).fall = s.fall := rfl
@[simp] theorem emitSample_tick (v : Byte) (s : State) : (emitSample v s).tick = s.tick := rfl
@[simp] theorem emitSample_out (v : Byte) (s : State) : (emitSample v s).out = v := rfl
@[simp] theorem emitSample_cfg (v : Byte) (s : State) : (emitSample v s).cfg = s.cfg := rfl
@[simp] theorem emitSample_trace (v : Byte) (s : State) : (emitSample v s).trace = s.trace := rfl
@[simp] theorem emitSample_todo (v : Byte) (s : State) : (emitSample v s).todo = s.todo := rfl
@[simp] theorem emitSample_raw (v : Byte) (s : State) : (emitSample v s).raw = s.raw := rfl
@[simp] theorem emitSample_sink (v : Byte) (s : State) : (emitSample v s).sink = s.sink ++ [v] := rfl
@[simp] theorem emitSample_reached (v : Byte) (s : State) : (emitSample v s).reached = s.reached := rfl

/-! ### sampleReached -/

@[simp] theorem sampleReached_mode (b : Bool) (s : State) : (sampleReached b s).mode = s.mode := rfl
@[simp] theorem sampleReached_pending (b : Bool) (s : State) : (sampleReached b s).pending = s.pending := rfl
@[simp] theorem sampleReached_pos (b : Bool) (s : State) : (sampleReached b s).pos = s.pos := rfl
@[simp] theorem sampleReached_phase (b : Bool) (s : State) : (sampleReached b s).phase = s.phase := rfl
@[simp] theorem sampleReached_inc (b : Bool) (s : State) : (sampleReached b s).inc = s.inc := rfl
@[simp] theorem sampleReached_lfsr (b : Bool) (s : State) : (sampleReached b s).lfsr = s.lfsr := rfl
@[simp] theorem sampleReached_band (b : Bool) (s : State) : (sampleReached b s).band = s.band := rfl
@[simp] theorem sampleReached_pinkCtr (b : Bool) (s : State) : (sampleReached b s).pinkCtr = s.pinkCtr := rfl
@[simp] theorem sampleReached_vol (b : Bool) (s : State) : (sampleReached b s).vol = s.vol := rfl
@[simp] theorem sampleReached_dbLevel (b : Bool) (s : State) : (sampleReached b s).dbLevel = s.dbLevel := rfl
@[simp] theorem sampleReached_dbCount (b : Bool) (s : State) : (sampleReached b s).dbCount = s.dbCount := rfl
@[simp] theorem sampleReached_rise (b : Bool) (s : State) : (sampleReached b s).rise = s.rise := rfl
@[simp] theorem sampleReached_fall (b : Bool) (s : State) : (sampleReached b s).fall = s.fall := rfl
@[simp] theorem sampleReached_tick (b : Bool) (s : State) : (sampleReached b s).tick = s.tick := rfl
@[simp] theorem sampleReached_out (b : Bool) (s : State) : (sampleReached b s).out = s.out := rfl
@[simp] theorem sampleReached_cfg (b : Bool) (s : State) : (sampleReached b s).cfg = s.cfg := rfl
@[simp] theorem sampleReached_trace (b : Bool) (s : State) : (sampleReached b s).trace = s.trace := rfl
@[simp] theorem sampleReached_todo (b : Bool) (s : State) : (sampleReached b s).todo = s.todo := rfl
@[simp] theorem sampleReached_raw (b : Bool) (s : State) : (sampleReached b s).raw = s.raw := rfl
@[simp] theorem sampleReached_sink (b : Bool) (s : State) : (sampleReached b s).sink = s.sink := rfl
@[simp] theorem sampleReached_reached (b : Bool) (s : State) : (sampleReached b s).reached = s.reached ++ [b] := rfl

/-! ### takeRise -/

@[simp] theorem takeRise_mode (s : State) : (takeRise s).mode = s.mode := rfl
@[simp] theorem takeRise_pending (s : State) : (takeRise s).pending = s.pending := rfl
@[simp] theorem takeRise_pos (s : State) : (takeRise s).pos = s.pos := rfl
@[simp] theorem takeRise_phase (s : State) : (takeRise s).phase = s.phase := rfl
@[simp] theorem takeRise_inc (s : State) : (takeRise s).inc = s.inc := rfl
@[simp] theorem takeRise_lfsr (s : State) : (takeRise s).lfsr = s.lfsr := rfl
@[simp] theorem takeRise_band (s : State) : (takeRise s).band = s.band := rfl
@[simp] theorem takeRise_pinkCtr (s : State) : (takeRise s).pinkCtr = s.pinkCtr := rfl
@[simp] theorem takeRise_vol (s : State) : (takeRise s).vol = s.vol := rfl
@[simp] theorem takeRise_dbLevel (s : State) : (takeRise s).dbLevel = s.dbLevel := rfl
@[simp] theorem takeRise_dbCount (s : State) : (takeRise s).dbCount = s.dbCount := rfl
@[simp] theorem takeRise_rise (s : State) : (takeRise s).rise = false := rfl
@[simp] theorem takeRise_fall (s : State) : (takeRise s).fall = s.fall := rfl
@[simp] theorem takeRise_tick (s : State) : (takeRise s).tick = s.tick := rfl
@[simp] theorem takeRise_out (s : State) : (takeRise s).out = s.out := rfl
@[simp] theorem takeRise_cfg (s : State) : (takeRise s).cfg = s.cfg := rfl
@[simp] theorem takeRise_trace (s : State) : (takeRise s).trace = s.trace := rfl
@[simp] theorem takeRise_todo (s : State) : (takeRise s).todo = s.todo := rfl
@[simp] theorem takeRise_raw (s : State) : (takeRise s).raw = s.raw := rfl
@[simp] theorem takeRise_sink (s : State) : (takeRise s).sink = s.sink := rfl
@[simp] theorem takeRise_reached (s : State) : (takeRise s).reached = s.reached := rfl

/-! ### takeFall -/

@[simp] theorem takeFall_mode (s : State) : (takeFall s).mode = s.mode := rfl
@[simp] theorem takeFall_pending (s : State) : (takeFall s).pending = s.pending := rfl
@[simp] theorem takeFall_pos (s : State) : (takeFall s).pos = s.pos := rfl
@[simp] theorem takeFall_phase (s : State) : (takeFall s).phase = s.phase := rfl
@[simp] theorem takeFall_inc (s : State) : (takeFall s).inc = s.inc := rfl
@[simp] theorem takeFall_lfsr (s : State) : (takeFall s).lfsr = s.lfsr := rfl
@[simp] theorem takeFall_band (s : State) : (takeFall s).band = s.band := rfl
@[simp] theorem takeFall_pinkCtr (s : State) : (takeFall s).pinkCtr = s.pinkCtr := rfl
@[simp] theorem takeFall_vol (s : State) : (takeFall s).vol = s.vol := rfl
@[simp] theorem takeFall_dbLevel (s : State) : (takeFall s).dbLevel = s.dbLevel := rfl
@[simp] theorem takeFall_dbCount (s : State) : (takeFall s).dbCount = s.dbCount := rfl
@[simp] theorem takeFall_rise (s : State) : (takeFall s).rise = s.rise := rfl
@[simp] theorem takeFall_fall (s : State) : (takeFall s).fall = false := rfl
@[simp] theorem takeFall_tick (s : State) : (takeFall s).tick = s.tick := rfl
@[simp] theorem takeFall_out (s : State) : (takeFall s).out = s.out := rfl
@[simp] theorem takeFall_cfg (s : State) : (takeFall s).cfg = s.cfg := rfl
@[simp] theorem takeFall_trace (s : State) : (takeFall s).trace = s.trace := rfl
@[simp] theorem takeFall_todo (s : State) : (takeFall s).todo = s.todo := rfl
@[simp] theorem takeFall_raw (s : State) : (takeFall s).raw = s.raw := rfl
@[simp] theorem takeFall_sink (s : State) : (takeFall s).sink = s.sink := rfl
@[simp] theorem takeFall_reached (s : State) : (takeFall s).reached = s.reached := rfl

/-! ### raisePending -/

@[simp] theorem raisePending_mode (s : State) : (raisePending s).mode = s.mode := rfl
@[simp] theorem raisePending_pending (s : State) : (raisePending s).pending = true := rfl
@[simp] theorem raisePending_pos (s : State) : (raisePending s).pos = s.pos := rfl
@[simp] theorem raisePending_phase (s : State) : (raisePending s).phase = s.phase := rfl
@[simp] theorem raisePending_inc (s : State) : (raisePending s).inc = s.inc := rfl
@[simp] theorem raisePending_lfsr (s : State) : (raisePending s).lfsr = s.lfsr := rfl
@[simp] theorem raisePending_band (s : State) : (raisePending s).band = s.band := rfl
@[simp] theorem raisePending_pinkCtr (s : State) : (raisePending s).pinkCtr = s.pinkCtr := rfl
@[simp] theorem raisePending_vol (s : State) : (raisePending s).vol = s.vol := rfl
@[simp] theorem raisePending_dbLevel (s : State) : (raisePending s).dbLevel = s.dbLevel := rfl
@[simp] theorem raisePending_dbCount (s : State) : (raisePending s).dbCount = s.dbCount := rfl
@[simp] theorem raisePending_rise (s : State) : (raisePending s).rise = s.rise := rfl
@[simp] theorem raisePending_fall (s : State) : (raisePending s).fall = s.fall := rfl
@[simp] theorem raisePending_tick (s : State) : (raisePending s).tick = s.tick := rfl
@[simp] theorem raisePending_out (s : State) : (raisePending s).out = s.out := rfl
@[simp] theorem raisePending_cfg (s : State) : (raisePending s).cfg = s.cfg := rfl
@[simp] theorem raisePending_trace (s : State) : (raisePending s).trace = s.trace := rfl
@[simp] theorem raisePending_todo (s : State) : (raisePending s).todo = s.todo := rfl
@[simp] theorem raisePending_raw (s : State) : (raisePending s).raw = s.raw := rfl
@[simp] theorem raisePending_sink (s : State) : (raisePending s).sink = s.sink := rfl
@[simp] theorem raisePending_reached (s : State) : (raisePending s).reached = s.reached := rfl

/-! ### takePending -/

@[simp] theorem takePending_mode (s : State) : (takePending s).mode = s.mode := rfl
@[simp] theorem takePending_pending (s : State) : (takePending s).pending = false := rfl
@[simp] theorem takePending_pos (s : State) : (takePending s).pos = s.pos := rfl
@[simp] theorem takePending_phase (s : State) : (takePending s).phase = s.phase := rfl
@[simp] theorem takePending_inc (s : State) : (takePending s).inc = s.inc := rfl
@[simp] theorem takePending_lfsr (s : State) : (takePending s).lfsr = s.lfsr := rfl
@[simp] theorem takePending_band (s : State) : (takePending s).band = s.band := rfl
@[simp] theorem takePending_pinkCtr (s : State) : (takePending s).pinkCtr = s.pinkCtr := rfl
@[simp] theorem takePending_vol (s : State) : (takePending s).vol = s.vol := rfl
@[simp] theorem takePending_dbLevel (s : State) : (takePending s).dbLevel = s.dbLevel := rfl
@[simp] theorem takePending_dbCount (s : State) : (takePending s).dbCount = s.dbCount := rfl
@[simp] theorem takePending_rise (s : State) : (takePending s).rise = s.rise := rfl
@[simp] theorem takePending_fall (s : State) : (takePending s).fall = s.fall := rfl
@[simp] theorem takePending_tick (s : State) : (takePending s).tick = s.tick := rfl
@[simp] theorem takePending_out (s : State) : (takePending s).out = s.out := rfl
@[simp] theorem takePending_cfg (s : State) : (takePending s).cfg = s.cfg := rfl
@[simp] theorem takePending_trace (s : State) : (takePending s).trace = s.trace := rfl
@[simp] theorem takePending_todo (s : State) : (takePending s).todo = s.todo := rfl
@[simp] theorem takePending_raw (s : State) : (takePending s).raw = s.raw := rfl
@[simp] theorem takePending_sink (s : State) : (takePending s).sink = s.sink := rfl
@[simp] theorem takePending_reached (s : State) : (takePending s).reached = s.reached := rfl

/-! ### postEdge -/

@[simp] theorem postEdge_mode (b : Bool) (s : State) : (postEdge b s).mode = s.mode := by
  cases b <;> rfl
@[simp] theorem postEdge_pending (b : Bool) (s : State) : (postEdge b s).pending = s.pending := by
  cases b <;> rfl
@[simp] theorem postEdge_pos (b : Bool) (s : State) : (postEdge b s).pos = s.pos := by
  cases b <;> rfl
@[simp] theorem postEdge_phase (b : Bool) (s : State) : (postEdge b s).phase = s.phase := by
  cases b <;> rfl
@[simp] theorem postEdge_inc (b : Bool) (s : State) : (postEdge b s).inc = s.inc := by
  cases b <;> rfl
@[simp] theorem postEdge_lfsr (b : Bool) (s : State) : (postEdge b s).lfsr = s.lfsr := by
  cases b <;> rfl
@[simp] theorem postEdge_band (b : Bool) (s : State) : (postEdge b s).band = s.band := by
  cases b <;> rfl
@[simp] theorem postEdge_pinkCtr (b : Bool) (s : State) : (postEdge b s).pinkCtr = s.pinkCtr := by
  cases b <;> rfl
@[simp] theorem postEdge_vol (b : Bool) (s : State) : (postEdge b s).vol = s.vol := by
  cases b <;> rfl
@[simp] theorem postEdge_dbLevel (b : Bool) (s : State) : (postEdge b s).dbLevel = s.dbLevel := by
  cases b <;> rfl
@[simp] theorem postEdge_dbCount (b : Bool) (s : State) : (postEdge b s).dbCount = s.dbCount := by
  cases b <;> rfl
@[simp] theorem postEdge_rise (b : Bool) (s : State) : (postEdge b s).rise = (s.rise || b) := by
  cases b <;> simp [postEdge]
@[simp] theorem postEdge_fall (b : Bool) (s : State) : (postEdge b s).fall = (s.fall || !b) := by
  cases b <;> simp [postEdge]
@[simp] theorem postEdge_tick (b : Bool) (s : State) : (postEdge b s).tick = s.tick := by
  cases b <;> rfl
@[simp] theorem postEdge_out (b : Bool) (s : State) : (postEdge b s).out = s.out := by
  cases b <;> rfl
@[simp] theorem postEdge_cfg (b : Bool) (s : State) : (postEdge b s).cfg = s.cfg := by
  cases b <;> rfl
@[simp] theorem postEdge_trace (b : Bool) (s : State) : (postEdge b s).trace = s.trace := by
  cases b <;> rfl
@[simp] theorem postEdge_todo (b : Bool) (s : State) : (postEdge b s).todo = s.todo := by
  cases b <;> rfl
@[simp] theorem postEdge_raw (b : Bool) (s : State) : (postEdge b s).raw = s.raw := by
  cases b <;> rfl
@[simp] theorem postEdge_sink (b : Bool) (s : State) : (postEdge b s).sink = s.sink := by
  cases b <;> rfl
@[simp] theorem postEdge_reached (b : Bool) (s : State) : (postEdge b s).reached = s.reached := by
  cases b <;> rfl

/-! ### toneStep -/

@[simp] theorem toneStep_mode (s : State) : (toneStep s).mode = s.mode := rfl
@[simp] theorem toneStep_pending (s : State) : (toneStep s).pending = s.pending := rfl
@[simp] theorem toneStep_pos (s : State) : (toneStep s).pos = s.pos := rfl
@[simp] theorem toneStep_phase (s : State) : (toneStep s).phase = s.phase + s.inc := rfl
@[simp] theorem toneStep_inc (s : State) : (toneStep s).inc = s.inc := rfl
@[simp] theorem toneStep_lfsr (s : State) : (toneStep s).lfsr = s.lfsr := rfl
@[simp] theorem toneStep_band (s : State) : (toneStep s).band = s.band := rfl
@[simp] theorem toneStep_pinkCtr (s : State) : (toneStep s).pinkCtr = s.pinkCtr := rfl
@[simp] theorem toneStep_vol (s : State) : (toneStep s).vol = s.vol := rfl
@[simp] theorem toneStep_dbLevel (s : State) : (toneStep s).dbLevel = s.dbLevel := rfl
@[simp] theorem toneStep_dbCount (s : State) : (toneStep s).dbCount = s.dbCount := rfl
@[simp] theorem toneStep_rise (s : State) : (toneStep s).rise = s.rise := rfl
@[simp] theorem toneStep_fall (s : State) : (toneStep s).fall = s.fall := rfl
@[simp] theorem toneStep_tick (s : State) : (toneStep s).tick = s.tick := rfl
@[simp] theorem toneStep_out (s : State) : (toneStep s).out = s.out := rfl
@[simp] theorem toneStep_cfg (s : State) : (toneStep s).cfg = s.cfg := rfl
@[simp] theorem toneStep_trace (s : State) : (toneStep s).trace = s.trace := rfl
@[simp] theorem toneStep_todo (s : State) : (toneStep s).todo = s.todo := rfl
@[simp] theorem toneStep_raw (s : State) : (toneStep s).raw = sineRom s.cfg.toneAmpl (sineIndex s.phase) := rfl
@[simp] theorem toneStep_sink (s : State) : (toneStep s).sink = s.sink := rfl
@[simp] theorem toneStep_reached (s : State) : (toneStep s).reached = s.reached := rfl

/-! ### whiteStep -/

@[simp] theorem whiteStep_mode (s : State) : (whiteStep s).mode = s.mode := rfl
@[simp] theorem whiteStep_pending (s : State) : (whiteStep s).pending = s.pending := rfl
@[simp] theorem whiteStep_pos (s : State) : (whiteStep s).pos = s.pos := rfl
@[simp] theorem whiteStep_phase (s : State) : (whiteStep s).phase = s.phase := rfl
@[simp] theorem whiteStep_inc (s : State) : (whiteStep s).inc = s.inc := rfl
@[simp] theorem whiteStep_lfsr (s : State) : (whiteStep s).lfsr = whiteNext s.cfg.lfsrTaps s.lfsr := rfl
@[simp] theorem whiteStep_band (s : State) : (whiteStep s).band = s.band := rfl
@[simp] theorem whiteStep_pinkCtr (s : State) : (whiteStep s).pinkCtr = s.pinkCtr := rfl
@[simp] theorem whiteStep_vol (s : State) : (whiteStep s).vol = s.vol := rfl
@[simp] theorem whiteStep_dbLevel (s : State) : (whiteStep s).dbLevel = s.dbLevel := rfl
@[simp] theorem whiteStep_dbCount (s : State) : (whiteStep s).dbCount = s.dbCount := rfl
@[simp] theorem whiteStep_rise (s : State) : (whiteStep s).rise = s.rise := rfl
@[simp] theorem whiteStep_fall (s : State) : (whiteStep s).fall = s.fall := rfl
@[simp] theorem whiteStep_tick (s : State) : (whiteStep s).tick = s.tick := rfl
@[simp] theorem whiteStep_out (s : State) : (whiteStep s).out = s.out := rfl
@[simp] theorem whiteStep_cfg (s : State) : (whiteStep s).cfg = s.cfg := rfl
@[simp] theorem whiteStep_trace (s : State) : (whiteStep s).trace = s.trace := rfl
@[simp] theorem whiteStep_todo (s : State) : (whiteStep s).todo = s.todo := rfl
@[simp] theorem whiteStep_raw (s : State) : (whiteStep s).raw = whiteByte s.cfg.lfsrTaps s.lfsr := rfl
@[simp] theorem whiteStep_sink (s : State) : (whiteStep s).sink = s.sink := rfl
@[simp] theorem whiteStep_reached (s : State) : (whiteStep s).reached = s.reached := rfl

/-! ### pinkStep -/

@[simp] theorem pinkStep_mode (s : State) : (pinkStep s).mode = s.mode := rfl
@[simp] theorem pinkStep_pending (s : State) : (pinkStep s).pending = s.pending := rfl
@[simp] theorem pinkStep_pos (s : State) : (pinkStep s).pos = s.pos := rfl
@[simp] theorem pinkStep_phase (s : State) : (pinkStep s).phase = s.phase := rfl
@[simp] theorem pinkStep_inc (s : State) : (pinkStep s).inc = s.inc := rfl
@[simp] theorem pinkStep_lfsr (s : State) : (pinkStep s).lfsr = whiteNext s.cfg.lfsrTaps s.lfsr := rfl
@[simp] theorem pinkStep_band (s : State) : (pinkStep s).band = refreshedBand s := rfl
@[simp] theorem pinkStep_pinkCtr (s : State) : (pinkStep s).pinkCtr = s.pinkCtr + 1 := rfl
@[simp] theorem pinkStep_vol (s : State) : (pinkStep s).vol = s.vol := rfl
@[simp] theorem pinkStep_dbLevel (s : State) : (pinkStep s).dbLevel = s.dbLevel := rfl
@[simp] theorem pinkStep_dbCount (s : State) : (pinkStep s).dbCount = s.dbCount := rfl
@[simp] theorem pinkStep_rise (s : State) : (pinkStep s).rise = s.rise := rfl
@[simp] theorem pinkStep_fall (s : State) : (pinkStep s).fall = s.fall := rfl
@[simp] theorem pinkStep_tick (s : State) : (pinkStep s).tick = s.tick := rfl
@[simp] theorem pinkStep_out (s : State) : (pinkStep s).out = s.out := rfl
@[simp] theorem pinkStep_cfg (s : State) : (pinkStep s).cfg = s.cfg := rfl
@[simp] theorem pinkStep_trace (s : State) : (pinkStep s).trace = s.trace := rfl
@[simp] theorem pinkStep_todo (s : State) : (pinkStep s).todo = s.todo := rfl
@[simp] theorem pinkStep_raw (s : State) : (pinkStep s).raw = BitVec.ofNat 8 (bandSum (refreshedBand s) / 2 ^ 4) := rfl
@[simp] theorem pinkStep_sink (s : State) : (pinkStep s).sink = s.sink := rfl
@[simp] theorem pinkStep_reached (s : State) : (pinkStep s).reached = s.reached := rfl

/-! ### loopAdvance -/

@[simp] theorem loopAdvance_mode (k : Fin 4) (v : Byte) (s : State) : (loopAdvance k v s).mode = s.mode := rfl
@[simp] theorem loopAdvance_pending (k : Fin 4) (v : Byte) (s : State) : (loopAdvance k v s).pending = s.pending := rfl
@[simp] theorem loopAdvance_pos (k : Fin 4) (v : Byte) (s : State) : (loopAdvance k v s).pos = nextPos s.cfg k s.pos := rfl
@[simp] theorem loopAdvance_phase (k : Fin 4) (v : Byte) (s : State) : (loopAdvance k v s).phase = s.phase := rfl
@[simp] theorem loopAdvance_inc (k : Fin 4) (v : Byte) (s : State) : (loopAdvance k v s).inc = s.inc := rfl
@[simp] theorem loopAdvance_lfsr (k : Fin 4) (v : Byte) (s : State) : (loopAdvance k v s).lfsr = s.lfsr := rfl
@[simp] theorem loopAdvance_band (k : Fin 4) (v : Byte) (s : State) : (loopAdvance k v s).band = s.band := rfl
@[simp] theorem loopAdvance_pinkCtr (k : Fin 4) (v : Byte) (s : State) : (loopAdvance k v s).pinkCtr = s.pinkCtr := rfl
@[simp] theorem loopAdvance_vol (k : Fin 4) (v : Byte) (s : State) : (loopAdvance k v s).vol = s.vol := rfl
@[simp] theorem loopAdvance_dbLevel (k : Fin 4) (v : Byte) (s : State) : (loopAdvance k v s).dbLevel = s.dbLevel := rfl
@[simp] theorem loopAdvance_dbCount (k : Fin 4) (v : Byte) (s : State) : (loopAdvance k v s).dbCount = s.dbCount := rfl
@[simp] theorem loopAdvance_rise (k : Fin 4) (v : Byte) (s : State) : (loopAdvance k v s).rise = s.rise := rfl
@[simp] theorem loopAdvance_fall (k : Fin 4) (v : Byte) (s : State) : (loopAdvance k v s).fall = s.fall := rfl
@[simp] theorem loopAdvance_tick (k : Fin 4) (v : Byte) (s : State) : (loopAdvance k v s).tick = s.tick := rfl
@[simp] theorem loopAdvance_out (k : Fin 4) (v : Byte) (s : State) : (loopAdvance k v s).out = s.out := rfl
@[simp] theorem loopAdvance_cfg (k : Fin 4) (v : Byte) (s : State) : (loopAdvance k v s).cfg = s.cfg := rfl
@[simp] theorem loopAdvance_trace (k : Fin 4) (v : Byte) (s : State) : (loopAdvance k v s).trace = s.trace := rfl
@[simp] theorem loopAdvance_todo (k : Fin 4) (v : Byte) (s : State) : (loopAdvance k v s).todo = s.todo := rfl
@[simp] theorem loopAdvance_raw (k : Fin 4) (v : Byte) (s : State) : (loopAdvance k v s).raw = v ^^^ loopBias := rfl
@[simp] theorem loopAdvance_sink (k : Fin 4) (v : Byte) (s : State) : (loopAdvance k v s).sink = s.sink := rfl
@[simp] theorem loopAdvance_reached (k : Fin 4) (v : Byte) (s : State) : (loopAdvance k v s).reached = s.reached := rfl

/-! ### pendingStep -/

@[simp] theorem pendingStep_mode (s : State) : (pendingStep s).mode = s.mode := by
  unfold pendingStep; split <;> rfl
@[simp] theorem pendingStep_pending (s : State) : (pendingStep s).pending = false := by
  unfold pendingStep; split <;> simp_all
@[simp] theorem pendingStep_pos (s : State) : (pendingStep s).pos = (if s.pending then 0 else s.pos) := by
  unfold pendingStep; split <;> simp_all
@[simp] theorem pendingStep_phase (s : State) : (pendingStep s).phase = (if s.pending then 0 else s.phase) := by
  unfold pendingStep; split <;> simp_all
@[simp] theorem pendingStep_inc (s : State) : (pendingStep s).inc = (if s.pending && isToneMode s.mode then s.cfg.freqWord (tonePreset s.mode) else s.inc) := by
  unfold pendingStep; split <;> simp_all
@[simp] theorem pendingStep_lfsr (s : State) : (pendingStep s).lfsr = s.lfsr := by
  unfold pendingStep; split <;> rfl
@[simp] theorem pendingStep_band (s : State) : (pendingStep s).band = s.band := by
  unfold pendingStep; split <;> rfl
@[simp] theorem pendingStep_pinkCtr (s : State) : (pendingStep s).pinkCtr = s.pinkCtr := by
  unfold pendingStep; split <;> rfl
@[simp] theorem pendingStep_vol (s : State) : (pendingStep s).vol = s.vol := by
  unfold pendingStep; split <;> rfl
@[simp] theorem pendingStep_dbLevel (s : State) : (pendingStep s).dbLevel = s.dbLevel := by
  unfold pendingStep; split <;> rfl
@[simp] theorem pendingStep_dbCount (s : State) : (pendingStep s).dbCount = s.dbCount := by
  unfold pendingStep; split <;> rfl
@[simp] theorem pendingStep_rise (s : State) : (pendingStep s).rise = s.rise := by
  unfold pendingStep; split <;> rfl
@[simp] theorem pendingStep_fall (s : State) : (pendingStep s).fall = s.fall := by
  unfold pendingStep; split <;> rfl
@[simp] theorem pendingStep_tick (s : State) : (pendingStep s).tick = s.tick := by
  unfold pendingStep; split <;> rfl
@[simp] theorem pendingStep_out (s : State) : (pendingStep s).out = s.out := by
  unfold pendingStep; split <;> rfl
@[simp] theorem pendingStep_cfg (s : State) : (pendingStep s).cfg = s.cfg := by
  unfold pendingStep; split <;> rfl
@[simp] theorem pendingStep_trace (s : State) : (pendingStep s).trace = s.trace := by
  unfold pendingStep; split <;> rfl
@[simp] theorem pendingStep_todo (s : State) : (pendingStep s).todo = s.todo := by
  unfold pendingStep; split <;> rfl
@[simp] theorem pendingStep_raw (s : State) : (pendingStep s).raw = s.raw := by
  unfold pendingStep; split <;> rfl
@[simp] theorem pendingStep_sink (s : State) : (pendingStep s).sink = s.sink := by
  unfold pendingStep; split <;> rfl
@[simp] theorem pendingStep_reached (s : State) : (pendingStep s).reached = s.reached := by
  unfold pendingStep; split <;> rfl

/-! ### debounceStep -/

@[simp] theorem debounceStep_mode (b : Bool) (s : State) : (debounceStep b s).mode = s.mode := by
  unfold debounceStep postEdge; repeat' split
  all_goals rfl
@[simp] theorem debounceStep_pending (b : Bool) (s : State) : (debounceStep b s).pending = s.pending := by
  unfold debounceStep postEdge; repeat' split
  all_goals rfl
@[simp] theorem debounceStep_pos (b : Bool) (s : State) : (debounceStep b s).pos = s.pos := by
  unfold debounceStep postEdge; repeat' split
  all_goals rfl
@[simp] theorem debounceStep_phase (b : Bool) (s : State) : (debounceStep b s).phase = s.phase := by
  unfold debounceStep postEdge; repeat' split
  all_goals rfl
@[simp] theorem debounceStep_inc (b : Bool) (s : State) : (debounceStep b s).inc = s.inc := by
  unfold debounceStep postEdge; repeat' split
  all_goals rfl
@[simp] theorem debounceStep_lfsr (b : Bool) (s : State) : (debounceStep b s).lfsr = s.lfsr := by
  unfold debounceStep postEdge; repeat' split
  all_goals rfl
@[simp] theorem debounceStep_band (b : Bool) (s : State) : (debounceStep b s).band = s.band := by
  unfold debounceStep postEdge; repeat' split
  all_goals rfl
@[simp] theorem debounceStep_pinkCtr (b : Bool) (s : State) : (debounceStep b s).pinkCtr = s.pinkCtr := by
  unfold debounceStep postEdge; repeat' split
  all_goals rfl
@[simp] theorem debounceStep_vol (b : Bool) (s : State) : (debounceStep b s).vol = s.vol := by
  unfold debounceStep postEdge; repeat' split
  all_goals rfl
@[simp] theorem debounceStep_tick (b : Bool) (s : State) : (debounceStep b s).tick = s.tick := by
  unfold debounceStep postEdge; repeat' split
  all_goals rfl
@[simp] theorem debounceStep_out (b : Bool) (s : State) : (debounceStep b s).out = s.out := by
  unfold debounceStep postEdge; repeat' split
  all_goals rfl
@[simp] theorem debounceStep_cfg (b : Bool) (s : State) : (debounceStep b s).cfg = s.cfg := by
  unfold debounceStep postEdge; repeat' split
  all_goals rfl
@[simp] theorem debounceStep_trace (b : Bool) (s : State) : (debounceStep b s).trace = s.trace := by
  unfold debounceStep postEdge; repeat' split
  all_goals rfl
@[simp] theorem debounceStep_todo (b : Bool) (s : State) : (debounceStep b s).todo = s.todo := by
  unfold debounceStep postEdge; repeat' split
  all_goals rfl
@[simp] theorem debounceStep_raw (b : Bool) (s : State) : (debounceStep b s).raw = s.raw := by
  unfold debounceStep postEdge; repeat' split
  all_goals rfl
@[simp] theorem debounceStep_sink (b : Bool) (s : State) : (debounceStep b s).sink = s.sink := by
  unfold debounceStep postEdge; repeat' split
  all_goals rfl
@[simp] theorem debounceStep_reached (b : Bool) (s : State) : (debounceStep b s).reached = s.reached := by
  unfold debounceStep postEdge; repeat' split
  all_goals rfl

/-! ### volumeStep -/

@[simp] theorem volumeStep_mode (adc : BitVec 12) (s : State) : (volumeStep adc s).mode = s.mode := rfl
@[simp] theorem volumeStep_pending (adc : BitVec 12) (s : State) : (volumeStep adc s).pending = s.pending := rfl
@[simp] theorem volumeStep_pos (adc : BitVec 12) (s : State) : (volumeStep adc s).pos = s.pos := rfl
@[simp] theorem volumeStep_phase (adc : BitVec 12) (s : State) : (volumeStep adc s).phase = s.phase := rfl
@[simp] theorem volumeStep_inc (adc : BitVec 12) (s : State) : (volumeStep adc s).inc = s.inc := rfl
@[simp] theorem volumeStep_lfsr (adc : BitVec 12) (s : State) : (volumeStep adc s).lfsr = s.lfsr := rfl
@[simp] theorem volumeStep_band (adc : BitVec 12) (s : State) : (volumeStep adc s).band = s.band := rfl
@[simp] theorem volumeStep_pinkCtr (adc : BitVec 12) (s : State) : (volumeStep adc s).pinkCtr = s.pinkCtr := rfl
@[simp] theorem volumeStep_vol (adc : BitVec 12) (s : State) : (volumeStep adc s).vol = volumeSample adc := rfl
@[simp] theorem volumeStep_dbLevel (adc : BitVec 12) (s : State) : (volumeStep adc s).dbLevel = s.dbLevel := rfl
@[simp] theorem volumeStep_dbCount (adc : BitVec 12) (s : State) : (volumeStep adc s).dbCount = s.dbCount := rfl
@[simp] theorem volumeStep_rise (adc : BitVec 12) (s : State) : (volumeStep adc s).rise = s.rise := rfl
@[simp] theorem volumeStep_fall (adc : BitVec 12) (s : State) : (volumeStep adc s).fall = s.fall := rfl
@[simp] theorem volumeStep_tick (adc : BitVec 12) (s : State) : (volumeStep adc s).tick = s.tick := rfl
@[simp] theorem volumeStep_out (adc : BitVec 12) (s : State) : (volumeStep adc s).out = s.out := rfl
@[simp] theorem volumeStep_cfg (adc : BitVec 12) (s : State) : (volumeStep adc s).cfg = s.cfg := rfl
@[simp] theorem volumeStep_trace (adc : BitVec 12) (s : State) : (volumeStep adc s).trace = s.trace := rfl
@[simp] theorem volumeStep_todo (adc : BitVec 12) (s : State) : (volumeStep adc s).todo = s.todo := rfl
@[simp] theorem volumeStep_raw (adc : BitVec 12) (s : State) : (volumeStep adc s).raw = s.raw := rfl
@[simp] theorem volumeStep_sink (adc : BitVec 12) (s : State) : (volumeStep adc s).sink = s.sink := rfl
@[simp] theorem volumeStep_reached (adc : BitVec 12) (s : State) : (volumeStep adc s).reached = s.reached := rfl

/-! ### tickStep -/

@[simp] theorem tickStep_mode (s : State) : (tickStep s).mode = s.mode := rfl
@[simp] theorem tickStep_pending (s : State) : (tickStep s).pending = s.pending := rfl
@[simp] theorem tickStep_pos (s : State) : (tickStep s).pos = s.pos := rfl
@[simp] theorem tickStep_phase (s : State) : (tickStep s).phase = s.phase := rfl
@[simp] theorem tickStep_inc (s : State) : (tickStep s).inc = s.inc := rfl
@[simp] theorem tickStep_lfsr (s : State) : (tickStep s).lfsr = s.lfsr := rfl
@[simp] theorem tickStep_band (s : State) : (tickStep s).band = s.band := rfl
@[simp] theorem tickStep_pinkCtr (s : State) : (tickStep s).pinkCtr = s.pinkCtr := rfl
@[simp] theorem tickStep_vol (s : State) : (tickStep s).vol = s.vol := rfl
@[simp] theorem tickStep_dbLevel (s : State) : (tickStep s).dbLevel = s.dbLevel := rfl
@[simp] theorem tickStep_dbCount (s : State) : (tickStep s).dbCount = s.dbCount := rfl
@[simp] theorem tickStep_rise (s : State) : (tickStep s).rise = s.rise := rfl
@[simp] theorem tickStep_fall (s : State) : (tickStep s).fall = s.fall := rfl
@[simp] theorem tickStep_tick (s : State) : (tickStep s).tick = s.tick + 1 := rfl
@[simp] theorem tickStep_out (s : State) : (tickStep s).out = s.out := rfl
@[simp] theorem tickStep_cfg (s : State) : (tickStep s).cfg = s.cfg := rfl
@[simp] theorem tickStep_trace (s : State) : (tickStep s).trace = s.trace := rfl
@[simp] theorem tickStep_todo (s : State) : (tickStep s).todo = s.todo := rfl
@[simp] theorem tickStep_raw (s : State) : (tickStep s).raw = s.raw := rfl
@[simp] theorem tickStep_sink (s : State) : (tickStep s).sink = s.sink := rfl
@[simp] theorem tickStep_reached (s : State) : (tickStep s).reached = s.reached := rfl

/-! ### advanceMode -/

@[simp] theorem advanceMode_mode (s : State) : (advanceMode s).mode = s.mode + 1 := rfl
@[simp] theorem advanceMode_pending (s : State) : (advanceMode s).pending = s.pending := rfl
@[simp] theorem advanceMode_pos (s : State) : (advanceMode s).pos = s.pos := rfl
@[simp] theorem advanceMode_phase (s : State) : (advanceMode s).phase = s.phase := rfl
@[simp] theorem advanceMode_inc (s : State) : (advanceMode s).inc = s.inc := rfl
@[simp] theorem advanceMode_lfsr (s : State) : (advanceMode s).lfsr = s.lfsr := rfl
@[simp] theorem advanceMode_band (s : State) : (advanceMode s).band = s.band := rfl
@[simp] theorem advanceMode_pinkCtr (s : State) : (advanceMode s).pinkCtr = s.pinkCtr := rfl
@[simp] theorem advanceMode_vol (s : State) : (advanceMode s).vol = s.vol := rfl
@[simp] theorem advanceMode_dbLevel (s : State) : (advanceMode s).dbLevel = s.dbLevel := rfl
@[simp] theorem advanceMode_dbCount (s : State) : (advanceMode s).dbCount = s.dbCount := rfl
@[simp] theorem advanceMode_rise (s : State) : (advanceMode s).rise = s.rise := rfl
@[simp] theorem advanceMode_fall (s : State) : (advanceMode s).fall = s.fall := rfl
@[simp] theorem advanceMode_tick (s : State) : (advanceMode s).tick = s.tick := rfl
@[simp] theorem advanceMode_out (s : State) : (advanceMode s).out = s.out := rfl
@[simp] theorem advanceMode_cfg (s : State) : (advanceMode s).cfg = s.cfg := rfl
@[simp] theorem advanceMode_trace (s : State) : (advanceMode s).trace = s.trace := rfl
@[simp] theorem advanceMode_todo (s : State) : (advanceMode s).todo = s.todo := rfl
@[simp] theorem advanceMode_raw (s : State) : (advanceMode s).raw = s.raw := rfl
@[simp] theorem advanceMode_sink (s : State) : (advanceMode s).sink = s.sink := rfl
@[simp] theorem advanceMode_reached (s : State) : (advanceMode s).reached = s.reached := rfl

/-! ### pollRise -/

@[simp] theorem pollRise_mode (s : State) : (pollRise s).mode = (if s.rise then s.mode + 1 else s.mode) := by
  unfold pollRise; split <;> simp_all
@[simp] theorem pollRise_pending (s : State) : (pollRise s).pending = (s.pending || s.rise) := by
  unfold pollRise; split <;> simp_all
@[simp] theorem pollRise_pos (s : State) : (pollRise s).pos = s.pos := by
  unfold pollRise; split <;> rfl
@[simp] theorem pollRise_phase (s : State) : (pollRise s).phase = s.phase := by
  unfold pollRise; split <;> rfl
@[simp] theorem pollRise_inc (s : State) : (pollRise s).inc = s.inc := by
  unfold pollRise; split <;> rfl
@[simp] theorem pollRise_lfsr (s : State) : (pollRise s).lfsr = s.lfsr := by
  unfold pollRise; split <;> rfl
@[simp] theorem pollRise_band (s : State) : (pollRise s).band = s.band := by
  unfold pollRise; split <;> rfl
@[simp] theorem pollRise_pinkCtr (s : State) : (pollRise s).pinkCtr = s.pinkCtr := by
  unfold pollRise; split <;> rfl
@[simp] theorem pollRise_vol (s : State) : (pollRise s).vol = s.vol := by
  unfold pollRise; split <;> rfl
@[simp] theorem pollRise_dbLevel (s : State) : (pollRise s).dbLevel = s.dbLevel := by
  unfold pollRise; split <;> rfl
@[simp] theorem pollRise_dbCount (s : State) : (pollRise s).dbCount = s.dbCount := by
  unfold pollRise; split <;> rfl
@[simp] theorem pollRise_rise (s : State) : (pollRise s).rise = false := by
  unfold pollRise; split <;> simp_all
@[simp] theorem pollRise_fall (s : State) : (pollRise s).fall = s.fall := by
  unfold pollRise; split <;> rfl
@[simp] theorem pollRise_tick (s : State) : (pollRise s).tick = s.tick := by
  unfold pollRise; split <;> rfl
@[simp] theorem pollRise_out (s : State) : (pollRise s).out = s.out := by
  unfold pollRise; split <;> rfl
@[simp] theorem pollRise_cfg (s : State) : (pollRise s).cfg = s.cfg := by
  unfold pollRise; split <;> rfl
@[simp] theorem pollRise_trace (s : State) : (pollRise s).trace = s.trace := by
  unfold pollRise; split <;> rfl
@[simp] theorem pollRise_todo (s : State) : (pollRise s).todo = s.todo := by
  unfold pollRise; split <;> rfl
@[simp] theorem pollRise_raw (s : State) : (pollRise s).raw = s.raw := by
  unfold pollRise; split <;> rfl
@[simp] theorem pollRise_sink (s : State) : (pollRise s).sink = s.sink := by
  unfold pollRise; split <;> rfl
@[simp] theorem pollRise_reached (s : State) : (pollRise s).reached = s.reached := by
  unfold pollRise; split <;> rfl

/-! ### pollFall -/

@[simp] theorem pollFall_mode (s : State) : (pollFall s).mode = s.mode := by
  unfold pollFall; split <;> rfl
@[simp] theorem pollFall_pending (s : State) : (pollFall s).pending = s.pending := by
  unfold pollFall; split <;> rfl
@[simp] theorem pollFall_pos (s : State) : (pollFall s).pos = s.pos := by
  unfold pollFall; split <;> rfl
@[simp] theorem pollFall_phase (s : State) : (pollFall s).phase = s.phase := by
  unfold pollFall; split <;> rfl
@[simp] theorem pollFall_inc (s : State) : (pollFall s).inc = s.inc := by
  unfold pollFall; split <;> rfl
@[simp] theorem pollFall_lfsr (s : State) : (pollFall s).lfsr = s.lfsr := by
  unfold pollFall; split <;> rfl
@[simp] theorem pollFall_band (s : State) : (pollFall s).band = s.band := by
  unfold pollFall; split <;> rfl
@[simp] theorem pollFall_pinkCtr (s : State) : (pollFall s).pinkCtr = s.pinkCtr := by
  unfold pollFall; split <;> rfl
@[simp] theorem pollFall_vol (s : State) : (pollFall s).vol = s.vol := by
  unfold pollFall; split <;> rfl
@[simp] theorem pollFall_dbLevel (s : State) : (pollFall s).dbLevel = s.dbLevel := by
  unfold pollFall; split <;> rfl
@[simp] theorem pollFall_dbCount (s : State) : (pollFall s).dbCount = s.dbCount := by
  unfold pollFall; split <;> rfl
@[simp] theorem pollFall_rise (s : State) : (pollFall s).rise = s.rise := by
  unfold pollFall; split <;> rfl
@[simp] theorem pollFall_fall (s : State) : (pollFall s).fall = false := by
  unfold pollFall; split <;> simp_all
@[simp] theorem pollFall_tick (s : State) : (pollFall s).tick = s.tick := by
  unfold pollFall; split <;> rfl
@[simp] theorem pollFall_out (s : State) : (pollFall s).out = s.out := by
  unfold pollFall; split <;> rfl
@[simp] theorem pollFall_cfg (s : State) : (pollFall s).cfg = s.cfg := by
  unfold pollFall; split <;> rfl
@[simp] theorem pollFall_trace (s : State) : (pollFall s).trace = s.trace := by
  unfold pollFall; split <;> rfl
@[simp] theorem pollFall_todo (s : State) : (pollFall s).todo = s.todo := by
  unfold pollFall; split <;> rfl
@[simp] theorem pollFall_raw (s : State) : (pollFall s).raw = s.raw := by
  unfold pollFall; split <;> rfl
@[simp] theorem pollFall_sink (s : State) : (pollFall s).sink = s.sink := by
  unfold pollFall; split <;> rfl
@[simp] theorem pollFall_reached (s : State) : (pollFall s).reached = s.reached := by
  unfold pollFall; split <;> rfl

/-! ### resetRegisters -/

@[simp] theorem resetRegisters_mode (s : State) : (resetRegisters s).mode = 0 := rfl
@[simp] theorem resetRegisters_pending (s : State) : (resetRegisters s).pending = false := rfl
@[simp] theorem resetRegisters_pos (s : State) : (resetRegisters s).pos = 0 := rfl
@[simp] theorem resetRegisters_phase (s : State) : (resetRegisters s).phase = 0 := rfl
@[simp] theorem resetRegisters_inc (s : State) : (resetRegisters s).inc = 0 := rfl
@[simp] theorem resetRegisters_lfsr (s : State) : (resetRegisters s).lfsr = 1 := rfl
@[simp] theorem resetRegisters_band (s : State) : (resetRegisters s).band = Vector.replicate 8 0 := rfl
@[simp] theorem resetRegisters_pinkCtr (s : State) : (resetRegisters s).pinkCtr = 0 := rfl
@[simp] theorem resetRegisters_vol (s : State) : (resetRegisters s).vol = 0 := rfl
@[simp] theorem resetRegisters_dbLevel (s : State) : (resetRegisters s).dbLevel = false := rfl
@[simp] theorem resetRegisters_dbCount (s : State) : (resetRegisters s).dbCount = 0 := rfl
@[simp] theorem resetRegisters_rise (s : State) : (resetRegisters s).rise = false := rfl
@[simp] theorem resetRegisters_fall (s : State) : (resetRegisters s).fall = false := rfl
@[simp] theorem resetRegisters_tick (s : State) : (resetRegisters s).tick = 0 := rfl
@[simp] theorem resetRegisters_out (s : State) : (resetRegisters s).out = 0 := rfl
@[simp] theorem resetRegisters_cfg (s : State) : (resetRegisters s).cfg = s.cfg := rfl
@[simp] theorem resetRegisters_trace (s : State) : (resetRegisters s).trace = s.trace := rfl
@[simp] theorem resetRegisters_todo (s : State) : (resetRegisters s).todo = s.todo := rfl
@[simp] theorem resetRegisters_raw (s : State) : (resetRegisters s).raw = s.raw := rfl
@[simp] theorem resetRegisters_sink (s : State) : (resetRegisters s).sink = s.sink := rfl
@[simp] theorem resetRegisters_reached (s : State) : (resetRegisters s).reached = s.reached := rfl

end Sys2Proof.Machine
end

