-- ==== Sys2Proof/Laws/Exec.lean ====
section
/-! SUPPORT. What each operation can do, said once: one lemma per shared operation, the cases of a step, and the
arithmetic facts the operations rest on. Proofs cite these and unfold no operation. -/
namespace Sys2Proof.Machine

/-! ### Configuration -/

/-- A valid configuration spelled out (R8, R9). -/
theorem valid_iff (c : Config) :
    c.valid = true ↔
      1 ≤ c.oversample ∧ (∀ k : Fin 4, 1 ≤ (c.loop k).len ∧ c.loopSpan k ≤ 2 ^ 32 - 1) ∧
      (1 ≤ c.toneAmpl ∧ c.toneAmpl ≤ 127) ∧
      (toneFreq0 < c.sampleRate ∧ 1 ≤ c.toneFreq1 ∧ c.toneFreq1 < c.sampleRate) ∧
      (1 ≤ c.debounceN ∧ c.debounceN ≤ 255) ∧ c.lfsrTaps.getLsbD 31 = true := by
  simp only [Config.valid, Config.validLoops, Config.validTone, Config.validDebounce, Config.validTaps,
    Config.validLoop, Bool.and_eq_true, decide_eq_true_eq, Fin.forall_fin_succ, Fin.forall_fin_zero]
  constructor
  · rintro ⟨⟨⟨hF, ⟨h0, h1⟩, h2, h3⟩, hA, hr, hf, hf'⟩, hN, hT⟩
    exact ⟨hF, ⟨h0, h1, h2, h3, trivial⟩, hA, ⟨hr, hf, hf'⟩, hN, hT⟩
  · rintro ⟨hF, ⟨h0, h1, h2, h3, -⟩, hA, ⟨hr, hf, hf'⟩, hN, hT⟩
    exact ⟨⟨⟨hF, ⟨h0, h1⟩, h2, h3⟩, hA, hr, hf, hf'⟩, hN, hT⟩

/-! ### Sequencing -/

/-- `andThen` goes on from a next state. -/
@[simp] theorem andThen_next (t : State) (f : State → Host.Outcome State Fault Refusal) :
    andThen (.next t) f = f t := rfl

/-- `andThen` answers a next state only through one. -/
theorem andThen_eq_next {o : Host.Outcome State Fault Refusal} {f : State → Host.Outcome State Fault Refusal}
    {t : State} : andThen o f = .next t ↔ ∃ u, o = .next u ∧ f u = .next t := by
  cases o <;> simp [andThen]

/-! ### Loop playback -/

/-- A position of the loop has its index inside the ROM (R183). -/
theorem loopIndex_lt {c : Config} {k : Fin 4} {pos : Word} (h : pos.toNat < c.loopSpan k) :
    loopIndex c.oversample pos < (c.loop k).len := by
  have hF : 0 < c.oversample := by
    rcases Nat.eq_zero_or_pos c.oversample with h0 | h0
    · simp [Config.loopSpan, h0] at h
    · exact h0
  exact (Nat.div_lt_iff_lt_mul hF).mpr h

/-- A read inside the ROM answers its entry (R72). -/
theorem loopRom_of_lt {c : Config} {k : Fin 4} {idx : Nat} (h : idx < (c.loop k).len) :
    loopRom c k idx = some (Memory.read (c.loop k).data idx) := if_pos h

/-- A read outside the ROM answers nothing (R72). -/
theorem loopRom_of_le {c : Config} {k : Fin 4} {idx : Nat} (h : (c.loop k).len ≤ idx) :
    loopRom c k idx = none := if_neg (by omega)

/-- A loop operation answers a next state only by advancing on the byte it read (R182). -/
theorem loopStep_eq_next {k : Fin 4} {s t : State} :
    loopStep k s = .next t ↔
      loopIndex s.cfg.oversample s.pos < (s.cfg.loop k).len ∧
      t = loopAdvance k (Memory.read (s.cfg.loop k).data (loopIndex s.cfg.oversample s.pos)) s := by
  unfold loopStep loopRom
  split
  · rename_i v h
    split at h
    · rename_i hlt
      simp only [Option.some.injEq] at h
      subst h
      simp [hlt, eq_comm]
    · simp at h
  · rename_i h
    split at h
    · simp at h
    · rename_i hlt
      simp [hlt]

/-- The next position is a position of the loop, or 0 (R182). -/
theorem nextPos_lt {c : Config} {k : Fin 4} {pos : Word} (hspan : 0 < c.loopSpan k) :
    (nextPos c k pos).toNat < c.loopSpan k := by
  unfold nextPos
  split
  · simpa using hspan
  · rename_i h
    have hle : (pos + 1).toNat ≤ pos.toNat + 1 := by
      rw [BitVec.toNat_add]
      exact Nat.mod_le _ _
    omega

/-! ### The generators -/

/-- The generator each mode selects (R102, R186). -/
theorem decodeMsel_mselOf (m : BitVec 3) :
    decodeMsel (mselOf m) =
      match m.toNat with
      | 0 => .loop0 | 1 => .loop1 | 2 => .loop2 | 3 => .loop3
      | 4 => .tone0 | 5 => .tone1 | 6 => .wnoise | _ => .pnoise := by
  revert m; decide

/-- What a generator operation can do: advance a loop on a byte of its ROM, step the tone, the white noise or the
pink noise, or return 0 (R186). -/
theorem muxSelect_cases {w : BitVec 4} {s t : State} (h : muxSelect w s = .next t) :
    (∃ k v, t = loopAdvance k v s) ∨ t = toneStep s ∨ t = whiteStep s ∨ t = pinkStep s ∨ t = returnRaw 0 s := by
  unfold muxSelect at h
  split at h
  · exact .inl ⟨_, _, (loopStep_eq_next.mp h).2⟩
  · exact .inl ⟨_, _, (loopStep_eq_next.mp h).2⟩
  · exact .inl ⟨_, _, (loopStep_eq_next.mp h).2⟩
  · exact .inl ⟨_, _, (loopStep_eq_next.mp h).2⟩
  · cases h; exact .inr (.inl rfl)
  · cases h; exact .inr (.inl rfl)
  · cases h; exact .inr (.inr (.inl rfl))
  · cases h; exact .inr (.inr (.inr (.inl rfl)))
  · cases h; exact .inr (.inr (.inr (.inr rfl)))

/-- What AUDIO_TICK can do: one generator operation after the pending update, its sample scaled and delivered
(R230). -/
theorem execAudioTick_eq_next {s t : State} :
    execAudioTick s = .next t ↔
      ∃ u, muxSelect (mselOf s.mode) (pendingStep s) = .next u ∧ t = emitSample (scale u.raw u.vol) u := by
  unfold execAudioTick
  rw [andThen_eq_next]
  simp [eq_comm]

/-- The scaled sample as a number (R233). -/
theorem scale_toNat (raw vol : Byte) : (scale raw vol).toNat = raw.toNat * vol.toNat / 2 ^ 8 := by
  have hprod : raw.toNat * vol.toNat ≤ 255 * 255 :=
    Nat.mul_le_mul (Nat.le_of_lt_succ raw.isLt) (Nat.le_of_lt_succ vol.isLt)
  rw [scale, BitVec.toNat_ofNat, Nat.mod_eq_of_lt]
  omega

/-! ### The debounce filter -/

/-- A sample equal to the stable level clears the count (R252). -/
theorem debounceStep_of_eq {b : Bool} {s : State} (h : b = s.dbLevel) :
    debounceStep b s = { s with dbCount := 0 } := if_pos h

/-- The N-th consecutive other sample is accepted and its edge published (R252). -/
theorem debounceStep_accept {b : Bool} {s : State} (h : b ≠ s.dbLevel)
    (hN : s.cfg.debounceN ≤ s.dbCount.toNat + 1) :
    debounceStep b s = postEdge b { s with dbLevel := b, dbCount := 0 } := by
  rw [debounceStep, if_neg h, if_pos hN]

/-- An other sample before the N-th is counted (R252). -/
theorem debounceStep_count {b : Bool} {s : State} (h : b ≠ s.dbLevel)
    (hN : s.dbCount.toNat + 1 < s.cfg.debounceN) : debounceStep b s = { s with dbCount := s.dbCount + 1#8 } := by
  rw [debounceStep, if_neg h, if_neg (by omega)]
  rfl

/-! ### Sequences of operations -/

/-- A sequence performed in two parts. -/
theorem execAll_append (a b : List Instr) (s : State) :
    execAll (a ++ b) s = andThen (execAll a s) (execAll b) := by
  induction a generalizing s with
  | nil => rfl
  | cons i a ih =>
    simp only [List.cons_append, execAll]
    cases exec i s <;> simp [andThen, ih]

/-- A run taken in two parts. -/
theorem steps_add (m n : Nat) (s : State) : steps (m + n) s = andThen (steps m s) (steps n) := by
  induction m generalizing s with
  | zero => rw [Nat.zero_add]; rfl
  | succ m ih =>
    rw [Nat.succ_add]
    simp only [steps]
    cases step s <;> simp [andThen, ih]

/-! ### What no operation touches, and the next operation -/

/-- No operation writes the configuration, the trace or the rest of the request. -/
theorem exec_keeps {i : Instr} {s t : State} (h : exec i s = .next t) :
    t.cfg = s.cfg ∧ t.trace = s.trace ∧ t.todo = s.todo := by
  cases i with
  | audioTick =>
    obtain ⟨u, hu, rfl⟩ := execAudioTick_eq_next.mp h
    obtain ⟨k, v, rfl⟩ | rfl | rfl | rfl | rfl := muxSelect_cases hu <;> simp
  | loop0 => obtain ⟨-, rfl⟩ := loopStep_eq_next.mp h; simp
  | loop1 => obtain ⟨-, rfl⟩ := loopStep_eq_next.mp h; simp
  | loop2 => obtain ⟨-, rfl⟩ := loopStep_eq_next.mp h; simp
  | loop3 => obtain ⟨-, rfl⟩ := loopStep_eq_next.mp h; simp
  | reset => cases h; simp
  | serviceTick => cases h; simp
  | fgPoll => cases h; simp
  | idle => cases h; simp
  | deadlineCheck => cases h; simp
  | tone0 => cases h; simp
  | tone1 => cases h; simp
  | wnoise => cases h; simp
  | pnoise => cases h; simp
  | silence => cases h; simp

/-- The registers by name are all there is to the architectural state (R30). -/
theorem Registers.ext_read {a b : Registers} (h : ∀ r, a.read r = b.read r) : a = b := by
  have bool : ∀ {x y : Bool}, x.toNat = y.toNat → x = y := by decide
  have bv : ∀ {w : Nat} {x y : BitVec w}, x.toNat = y.toNat → x = y := BitVec.eq_of_toNat_eq
  have hband : a.band = b.band := Vector.ext fun i hi => bv (h (.band ⟨i, hi⟩))
  cases a
  cases b
  simp only [Registers.mk.injEq]
  exact ⟨bv (h .mode), bool (h .pending), bv (h .pos), bv (h .phase), bv (h .inc), bv (h .lfsr), hband,
    bv (h .pinkCtr), bv (h .vol), bool (h .dbLevel), bv (h .dbCount), bool (h .rise), bool (h .fall), bv (h .tick),
    bv (h .out)⟩

/-- Taking the next operation leaves the registers. -/
@[simp] theorem fetch_toRegisters (s : State) : (fetch s).2.toRegisters = s.toRegisters := by
  unfold fetch
  repeat' split
  all_goals rfl

/-- Taking the next operation changes only what is to come. -/
theorem fetch_keeps (s : State) : (fetch s).2 = { s with trace := (fetch s).2.trace, todo := (fetch s).2.todo } := by
  unfold fetch
  repeat' split
  all_goals rfl

/-- A step that answers a next state ran the next operation in a valid configuration (R9, R11). -/
theorem step_eq_next {s t : State} :
    step s = .next t ↔ s.cfg.valid = true ∧ exec (fetch s).1 (fetch s).2 = .next t := by
  unfold step
  split <;> simp_all

end Sys2Proof.Machine
end

