-- ==== Sys2Proof/Laws/Memory.lean ====
section
/-! SUPPORT. The canonical form of the read-only spaces: loading a ROM gives it, the example configuration has it,
and no operation writes a space (Laws/Exec.lean). -/
namespace Sys2Proof

/-- Lowering the first admissible index keeps the form. -/
theorem Memory.wfFrom_mono {lo lo' hi : Nat} (h : lo' ≤ lo) :
    ∀ {m : Memory}, Memory.wfFrom lo hi m = true → Memory.wfFrom lo' hi m = true
  | [], _ => rfl
  | (b, v) :: rest, hm => by
    simp only [Memory.wfFrom, Bool.and_eq_true, decide_eq_true_eq] at hm ⊢
    exact ⟨⟨⟨h.trans hm.1.1.1, hm.1.1.2⟩, hm.1.2⟩, hm.2⟩

/-- The cells loaded from index `i` on are in canonical form. -/
theorem Memory.wfFrom_ofBytesFrom (i : Nat) (bs : List Byte) :
    Memory.wfFrom i (i + bs.length) (Memory.ofBytesFrom i bs) = true := by
  induction bs generalizing i with
  | nil => rfl
  | cons v rest ih =>
    have hrest := ih (i + 1)
    rw [show i + 1 + rest.length = i + (v :: rest).length by simp [List.length_cons]; omega] at hrest
    unfold Memory.ofBytesFrom
    split
    · exact Memory.wfFrom_mono (Nat.le_succ i) hrest
    · rename_i hv
      simp only [Memory.wfFrom, Bool.and_eq_true, decide_eq_true_eq]
      exact ⟨⟨⟨le_rfl, by simp [List.length_cons]⟩, hv⟩, hrest⟩

/-- A loaded loop ROM is in canonical form. -/
theorem LoopRom.wf_ofBytes (bs : List Byte) : (LoopRom.ofBytes bs).wf = true := by
  have h := Memory.wfFrom_ofBytesFrom 0 bs
  rwa [Nat.zero_add] at h

/-- The loop ROMs of the state after RESET are in canonical form. -/
theorem romsWf_reset : Machine.State.reset.cfg.romsWf = true := by decide

/-- A space in canonical form that starts above an index reads as unlisted there. -/
theorem Memory.read_of_lt {lo hi a : Nat} (ha : a < lo) :
    ∀ {m : Memory}, Memory.wfFrom lo hi m = true → Memory.read m a = Memory.unlisted
  | [], _ => rfl
  | (b, v) :: rest, hm => by
    simp only [Memory.wfFrom, Bool.and_eq_true, decide_eq_true_eq] at hm
    have hb : lo ≤ b := hm.1.1.1
    rw [Memory.read, if_neg (by omega)]
    exact Memory.read_of_lt (by omega) hm.2

end Sys2Proof
end

