-- ==== Sys2Proof/Laws/PerInstr.lean ====
section
/-! SUPPORT. The statements made operation by operation. `TableRow`: the encoding of an operation lies in its own
row of spec/opcode_table.json. -/
namespace Sys2Proof.Laws.TableRow

/-- The encoding of `i` has the format and the opcode bits of `i`'s row. -/
def Statement (i : Instr) : Prop := (tableRow i).holds (encode i).format (encode i).opcode = true

theorem reset : Statement .reset := by unfold Statement; decide
theorem audioTick : Statement .audioTick := by unfold Statement; decide
theorem serviceTick (btn : Bool) (adc : BitVec 12) : Statement (.serviceTick btn adc) := by
  simp [Statement, tableRow, encode, Sys2Proof.TableRow.holds, Encoding.format, Encoding.opcode]
theorem fgPoll : Statement .fgPoll := by unfold Statement; decide
theorem idle : Statement .idle := by unfold Statement; decide
theorem deadlineCheck (goal : Word) : Statement (.deadlineCheck goal) := by
  simp [Statement, tableRow, encode, Sys2Proof.TableRow.holds, Encoding.format, Encoding.opcode]
theorem loop0 : Statement .loop0 := by unfold Statement; decide
theorem loop1 : Statement .loop1 := by unfold Statement; decide
theorem loop2 : Statement .loop2 := by unfold Statement; decide
theorem loop3 : Statement .loop3 := by unfold Statement; decide
theorem tone0 : Statement .tone0 := by unfold Statement; decide
theorem tone1 : Statement .tone1 := by unfold Statement; decide
theorem wnoise : Statement .wnoise := by unfold Statement; decide
theorem pnoise : Statement .pnoise := by unfold Statement; decide
theorem silence : Statement .silence := by unfold Statement; decide

end Sys2Proof.Laws.TableRow
end

