-- ==== Sys2Proof/Machine/TraceText.lean ====
section
/-! DEFINITION. The text form of an event trace (spec/30_encoding.md R109, R110): one event per line, `#` starts a
comment, numbers decimal or `0x` hexadecimal, a suffix `*n` repeats the event. A text is a list of characters, so
that the kernel can read it. Log entry 16 says what the spec leaves open here. -/
namespace Sys2Proof

/-- The ten digits of a decimal number, in the order of their values. -/
def decimals : List Char := ['0', '1', '2', '3', '4', '5', '6', '7', '8', '9']

/-- The digit of a decimal number a character is: its place among the ten (R109). -/
def decDigit (c : Char) : Option Nat := decimals.idxOf? c

/-- The digit of a number after `0x` a character is: its place among the sixteen, written in small letters or in
capitals (R109; either case: log entry 16). -/
def hexDigit (c : Char) : Option Nat :=
  ((decimals ++ ['a', 'b', 'c', 'd', 'e', 'f']).idxOf? c).or ((decimals ++ ['A', 'B', 'C', 'D', 'E', 'F']).idxOf? c)

/-- The number the digits stand for in a base, after the digits of value `acc`. -/
def readDigits (base : Nat) (digit : Char → Option Nat) (acc : Nat) : List Char → Option Nat
  | [] => some acc
  | c :: rest =>
    match digit c with
    | some d => readDigits base digit (acc * base + d) rest
    | none => none

/-- A number: decimal, or hexadecimal after `0x` (R109). -/
def readNumber : List Char → Option Nat
  | [] => none
  | ['0', 'x'] => none
  | '0' :: 'x' :: digits => readDigits 16 hexDigit 0 digits
  | digits => readDigits 10 decDigit 0 digits

/-- The part of a line before its comment (R109). -/
def dropComment : List Char → List Char
  | [] => []
  | '#' :: _ => []
  | c :: rest => c :: dropComment rest

/-- Put a finished word before the words that follow. -/
def consWord (word : List Char) (words : List (List Char)) : List (List Char) :=
  if word = [] then words else word :: words

/-- The words of a line: separated by spaces and tabs, a `*` beginning a word of its own. -/
def wordsFrom (word : List Char) : List Char → List (List Char)
  | [] => consWord word []
  | ' ' :: rest => consWord word (wordsFrom [] rest)
  | '\t' :: rest => consWord word (wordsFrom [] rest)
  | '*' :: rest => consWord word (wordsFrom ['*'] rest)
  | c :: rest => wordsFrom (word ++ [c]) rest

/-- The lines of a text. -/
def linesFrom (line : List Char) : List Char → List (List Char)
  | [] => [line]
  | '\n' :: rest => line :: linesFrom [] rest
  | c :: rest => linesFrom (line ++ [c]) rest

/-- The numbers a list of words stands for. -/
def readNumbers : List (List Char) → Option (List Nat)
  | [] => some []
  | w :: rest =>
    match readNumber w, readNumbers rest with
    | some n, some ns => some (n :: ns)
    | _, _ => none

/-- The event a name and its numbers stand for (R109, R110); nothing where the notation has none. -/
def eventOf (name : List Char) (ns : List Nat) : Option Event :=
  match name, ns with
  | ['R'], [] => some .r
  | ['A'], [] => some .a
  | ['S'], [b, adc] => some (.s b adc)
  | ['P'], [] => some .p
  | ['I'], [] => some .i
  | ['E'], [v] => some (.e v none)
  | ['E'], [v, b, adc] => some (.e v (some (b, adc)))
  | ['D'], [g] => some (.d g)
  | ['H', 'O', 'L', 'D'], [b, adc, n] => some (.hold b adc n)
  | ['P', 'R', 'E', 'S', 'S'], [adc] => some (.press adc)
  | ['R', 'E', 'L', 'E', 'A', 'S', 'E'], [adc] => some (.release adc)
  | ['N', 'E', 'X', 'T'], [adc] => some (.next adc)
  | _, _ => none

/-- The words of the event, and the repeat count of a last word `*n`: 1 where there is none, nothing where the
count is no number (R109). -/
def splitSuffix : List (List Char) → Option (List (List Char) × Nat)
  | [] => some ([], 1)
  | [('*' :: digits)] =>
    match readNumber digits with
    | some n => some ([], n)
    | none => none
  | w :: rest =>
    match splitSuffix rest with
    | some (ws, n) => some (w :: ws, n)
    | none => none

/-- One line of the notation, its numbers in range (R109). -/
def readLine (words : List (List Char)) : Option Line :=
  match splitSuffix words with
  | some (name :: operands, times) =>
    match readNumbers operands with
    | some ns =>
      match eventOf name ns with
      | some ev => if ev.wf then some ⟨ev, times⟩ else none
      | none => none
    | none => none
  | _ => none

/-- The lines of a text that hold an event; a line that is blank or only a comment holds none. -/
def readLines : List (List Char) → Option (List Line)
  | [] => some []
  | l :: rest =>
    match wordsFrom [] (dropComment l), readLines rest with
    | [], more => more
    | words, some more =>
      match readLine words with
      | some line => some (line :: more)
      | none => none
    | _, none => none

/-- The event trace a text stands for; nothing where a line is not of the notation (R109). -/
def readTrace (text : List Char) : Option (List Line) := readLines (linesFrom [] text)

end Sys2Proof
end

