-- ==== Sys2Proof/Tests/Slice0.lean ====
section
/-! SUPPORT. Tests of the model against spec/: well-formedness, decoding of words written out from the bit tables,
one or two single steps per operation on vectors of spec/95_test_vectors.md, and for every obligation with
hypotheses a state and operands that meet them. Every expected value is from spec/, none from the model. -/
namespace Sys2Proof.Tests
open Sys2Proof.Machine

/-- The outcome is a next state with the given property. -/
def okAnd (o : Host.Outcome State Fault Refusal) (p : State → Bool) : Bool :=
  match o with
  | .next t => p t
  | .fault _ => false
  | .refused _ => false

/-- The outcome is the given refusal. -/
def refusedWith (o : Host.Outcome State Fault Refusal) (r : Refusal) : Bool :=
  match o with
  | .next _ => false
  | .fault _ => false
  | .refused q => decide (q = r)

/-- The state after RESET in the example configuration of spec/95_test_vectors.md section 0. -/
def start : State := State.reset

/-! ### Well-formedness: for each check a term it refuses (R109, R9) -/

theorem test_wf_level : (Event.s 1 0).wf = true ∧ (Event.s 2 0).wf = false ∧ (Event.hold 2 0 1).wf = false := by decide
theorem test_wf_adc : (Event.s 0 4095).wf = true ∧ (Event.s 0 4096).wf = false ∧ (Event.press 4096).wf = false ∧
    (Event.release 4096).wf = false ∧ (Event.next 4096).wf = false ∧ (Event.hold 0 4096 1).wf = false := by decide
theorem test_wf_vector : (Event.e 15 (some (1, 0xFFF))).wf = true ∧ (Event.e 16 none).wf = false := by decide
theorem test_wf_vector_operands : (Event.e 4 none).wf = true ∧ (Event.e 2 none).wf = false ∧
    (Event.e 4 (some (0, 0))).wf = false ∧ (Event.e 2 (some (2, 0))).wf = false := by decide
theorem test_wf_goal : (Event.d 0xFFFFFFFF).wf = true ∧ (Event.d 0x100000000).wf = false := by decide
theorem test_wf_line : (Line.mk (.s 0 4096) 3).wf = false ∧ (Line.mk .a 0).wf = true := by decide
theorem test_config_valid : exampleConfig.valid = true := by decide
theorem test_config_amplitude : { exampleConfig with toneAmpl := 0 }.valid = false ∧
    { exampleConfig with toneAmpl := 128 }.valid = false ∧ { exampleConfig with toneAmpl := 127 }.valid = true := by decide
theorem test_config_loop_length :
    { exampleConfig with loops := exampleConfig.loops.set 2 ⟨0, []⟩ }.valid = false ∧
    { exampleConfig with loops := exampleConfig.loops.set 1 ⟨0x20000000, []⟩ }.valid = false ∧
    { exampleConfig with loops := exampleConfig.loops.set 1 ⟨0x1FFFFFFF, []⟩ }.valid = true := by decide
theorem test_config_debounce : { exampleConfig with debounceN := 0 }.valid = false ∧
    { exampleConfig with debounceN := 256 }.valid = false ∧ { exampleConfig with debounceN := 255 }.valid = true := by decide
theorem test_config_rate : { exampleConfig with sampleRate := 0 }.valid = false ∧
    { exampleConfig with sampleRate := 440, toneFreq1 := 100 }.valid = false ∧
    { exampleConfig with toneFreq1 := 88000 }.valid = false ∧
    { exampleConfig with toneFreq1 := 0 }.valid = false := by decide
theorem test_config_taps : { exampleConfig with lfsrTaps := 0x00200003 }.valid = false := by decide
theorem test_config_oversample : { exampleConfig with oversample := 0 }.valid = false := by decide

/-! ### Decoding: words written out from the bit tables of R101 to R103 -/

theorem test_decode_reset : decode (.ev 0b1000 false 0) = [.reset] ∧ decode (.ev 0b1111 true 0xFFF) = [.reset] := by decide
theorem test_decode_audioTick : decode (.ev 0b0100 false 0) = [.audioTick] := by decide
theorem test_decode_serviceTick : decode (.ev 0b0010 true 0x5A5) = [.serviceTick true 0x5A5] := by decide
theorem test_decode_fgPoll : decode (.ev 0b0001 false 0) = [.fgPoll] := by decide
theorem test_decode_idle : decode (.ev 0b0000 true 0xFFF) = [.idle] := by decide
theorem test_decode_deadlineCheck : decode (.comb 0xDEADBEEF) = [.deadlineCheck 0xDEADBEEF] := by decide
theorem test_decode_loop0 : decode (.msel 0b0000) = [.loop0] := by decide
theorem test_decode_loop1 : decode (.msel 0b0001) = [.loop1] := by decide
theorem test_decode_loop2 : decode (.msel 0b0010) = [.loop2] := by decide
theorem test_decode_loop3 : decode (.msel 0b0011) = [.loop3] := by decide
theorem test_decode_tone0 : decode (.msel 0b0100) = [.tone0] := by decide
theorem test_decode_tone1 : decode (.msel 0b0101) = [.tone1] := by decide
theorem test_decode_wnoise : decode (.msel 0b0110) = [.wnoise] := by decide
theorem test_decode_pnoise : decode (.msel 0b0111) = [.pnoise] := by decide
theorem test_decode_silence : decode (.msel 0b1000) = [.silence] ∧ decode (.msel 0b1101) = [.silence] ∧
    decode (.msel 0b1111) = [.silence] := by decide

/-- V-EV: the requests of several operations. -/
theorem test_decode_several :
    decode (.ev 0b0011 true 1) = [.serviceTick true 1, .fgPoll] ∧
    decode (.ev 0b0101 true 1) = [.audioTick, .fgPoll] ∧
    decode (.ev 0b0110 true 1) = [.audioTick, .serviceTick true 1] ∧
    decode (.ev 0b0111 true 1) = [.audioTick, .serviceTick true 1, .fgPoll] := by decide

/-- Log entry 9: bare words of the table. -/
theorem test_table_words :
    decodeTableWord 4 0x8 = some .reset ∧ decodeTableWord 4 0x4 = some .audioTick ∧
    decodeTableWord 4 0x2 = some (.serviceTick false 0) ∧ decodeTableWord 4 0x1 = some .fgPoll ∧
    decodeTableWord 4 0x0 = some .idle ∧ decodeTableWord 0 0 = some (.deadlineCheck 0) ∧
    decodeTableWord 4 0x3 = some .loop3 ∧ decodeTableWord 4 0x5 = some .tone1 ∧
    decodeTableWord 4 0x6 = some .wnoise ∧ decodeTableWord 4 0x7 = some .pnoise ∧
    decodeTableWord 4 0x10 = none := by decide

/-! ### One step per operation: the vectors of spec/95_test_vectors.md -/

/-- V-RESET: the registers; `E 15 1 0xFFF` is RESET alone, so TICK stays 0 and VOL is not sampled. -/
theorem test_reset_registers :
    okAnd (exec .reset { start with mode := 5, pos := 9, lfsr := 0xBEEF, vol := 3, rise := true, tick := 7, out := 1,
                                    band := Vector.replicate 8 0x55 })
      (fun t => decide (t = start)) = true := by decide
theorem test_reset_overrides :
    okAnd (step { start with trace := [.request 0b1111 true 0xFFF], tick := 9 })
      (fun t => decide (t.tick = 0 ∧ t.vol = 0 ∧ t.todo = [] ∧ t.sink = [])) = true := by decide

/-- V-AUDIO, rows 1 and 4: entering TONE0; TONE1 without an update. -/
theorem test_audioTick_enters_tone :
    okAnd (exec .audioTick { start with mode := 4, pending := true, pos := 17, phase := 0xDEADBEEF, inc := 5, vol := 255 })
      (fun t => decide (t.pending = false ∧ t.pos = 0 ∧ t.inc = 0x0147AE14 ∧ t.phase = 0x0147AE14 ∧ t.raw = 128 ∧
        t.out = 127 ∧ t.sink = [127])) = true := by decide
theorem test_audioTick_wraps_loop :
    okAnd (exec .audioTick { start with mode := 3, pos := 15, vol := 255 })
      (fun t => decide (t.raw = 0xBF ∧ t.pos = 0 ∧ t.out = 190 ∧ t.sink = [190])) = true := by decide

/-- V-DEB, ticks 30 and 15: the 15th consecutive 1 is accepted; a 0 clears the count. V-VOL, V-TICK beside them. -/
theorem test_serviceTick_accepts :
    okAnd (exec (.serviceTick true 0x7FF) { start with dbCount := 14, tick := 0xFFFFFFFF })
      (fun t => decide (t.dbLevel = true ∧ t.dbCount = 0 ∧ t.rise = true ∧ t.fall = false ∧ t.vol = 128 ∧
        t.tick = 0)) = true := by decide
theorem test_serviceTick_rejects_glitch :
    okAnd (exec (.serviceTick false 0xFEF) { start with dbCount := 14 })
      (fun t => decide (t.dbLevel = false ∧ t.dbCount = 0 ∧ t.rise = false ∧ t.fall = false ∧ t.vol = 1 ∧
        t.tick = 1)) = true := by decide

/-- V-MODE-1, rows 1 and 3. -/
theorem test_fgPoll_rise_and_fall :
    okAnd (exec .fgPoll { start with mode := 3, rise := true, fall := true })
      (fun t => decide (t.mode = 4 ∧ t.rise = false ∧ t.fall = false ∧ t.pending = true)) = true := by decide
theorem test_fgPoll_fall_alone :
    okAnd (exec .fgPoll { start with mode := 2, fall := true })
      (fun t => decide (t.mode = 2 ∧ t.fall = false ∧ t.pending = false)) = true := by decide

/-- R104: IDLE keeps everything. -/
theorem test_idle : okAnd (exec .idle { start with mode := 6, rise := true })
    (fun t => decide (t = { start with mode := 6, rise := true })) = true := by decide

/-- V-DL: the half range, and a goal before the wrap. -/
theorem test_deadlineCheck_half_range :
    okAnd (exec (.deadlineCheck 0) { start with tick := 0x7FFFFFFF }) (fun t => decide (t.reached = [true])) = true ∧
    okAnd (exec (.deadlineCheck 0) { start with tick := 0x80000000 }) (fun t => decide (t.reached = [false])) = true := by
  decide
theorem test_deadlineCheck_wrap :
    okAnd (exec (.deadlineCheck 0xFFFFFFFE) { start with tick := 5 }) (fun t => decide (t.reached = [true])) = true ∧
    okAnd (exec (.deadlineCheck 6) { start with tick := 5 }) (fun t => decide (t.reached = [false])) = true := by decide

/-- V-LOOP: the wraps, and the first position of an entry. -/
theorem test_loop0 :
    okAnd (exec .loop0 { start with pos := 23 }) (fun t => decide (t.raw = 0x7F ∧ t.pos = 0)) = true ∧
    okAnd (exec .loop0 { start with pos := 8 }) (fun t => decide (t.raw = 0xFF ∧ t.pos = 9)) = true := by decide
theorem test_loop1 :
    okAnd (exec .loop1 { start with pos := 15 }) (fun t => decide (t.raw = 0x81 ∧ t.pos = 0)) = true ∧
    okAnd (exec .loop1 { start with pos := 7 }) (fun t => decide (t.raw = 0x00 ∧ t.pos = 8)) = true := by decide
theorem test_loop2 :
    okAnd (exec .loop2 { start with pos := 7 }) (fun t => decide (t.raw = 0xC0 ∧ t.pos = 0)) = true := by decide
theorem test_loop3 :
    okAnd (exec .loop3 { start with pos := 8 }) (fun t => decide (t.raw = 0xBF ∧ t.pos = 9)) = true := by decide
theorem test_loop_refuses :
    refusedWith (exec .loop2 { start with pos := 8 }) .loopIndexOutOfRange = true := by decide

/-- V-TONE-4: the wrap, and the sample before the increment. -/
theorem test_tone0 :
    okAnd (exec .tone0 { start with phase := 0xFFFFFFFF, inc := 1 })
      (fun t => decide (t.raw = 125 ∧ t.phase = 0)) = true := by decide
theorem test_tone1 :
    okAnd (exec .tone1 { start with phase := 0xC0000000, inc := 0x80000000 })
      (fun t => decide (t.raw = 28 ∧ t.phase = 0x40000000)) = true := by decide

/-- Rows of the sine table for A = 100: entries 63 to 65 and 127 to 129. -/
theorem test_sineRom :
    sineRom 100 63 = 227 ∧ sineRom 100 64 = 228 ∧ sineRom 100 65 = 227 ∧
    sineRom 100 127 = 130 ∧ sineRom 100 128 = 128 ∧ sineRom 100 129 = 125 := by decide

/-- V-TONE-0: frequency words. -/
theorem test_freqWord :
    exampleConfig.freqWord 0 = 21474836 ∧ exampleConfig.freqWord 1 = 42949672 ∧
    { exampleConfig with sampleRate := 44100 }.freqWord 0 = 42852281 := by decide

/-- V-LFSR: the single-step corner cases. -/
theorem test_lfsrStep :
    lfsrStep specLfsrTaps 0x80000000 = 1 ∧ lfsrStep specLfsrTaps 0x00200000 = 0x00400001 ∧
    lfsrStep specLfsrTaps 3 = 6 ∧ lfsrStep specLfsrTaps 0xFFFFFFFF = 0xFFFFFFFE ∧ lfsrStep specLfsrTaps 0 = 0 := by
  decide

set_option maxRecDepth 8000 in
/-- V-WHITE, calls 1 and 5. -/
theorem test_wnoise :
    okAnd (exec .wnoise start) (fun t => decide (t.raw = 0xB6 ∧ t.lfsr = 0x000001B6)) = true ∧
    okAnd (exec .wnoise { start with lfsr := 0xB6DB68A3 })
      (fun t => decide (t.raw = 0xCF ∧ t.lfsr = 0xDB68A3CF)) = true := by decide

set_option maxRecDepth 8000 in
/-- V-PINK, calls 4 and 128. -/
theorem test_pnoise :
    okAnd (exec .pnoise { start with pinkCtr := 3, lfsr := 0x01B6DB68, band := #v[0x68, 0xDB, 0, 0, 0, 0, 0, 0] })
      (fun t => decide (t.band = #v[0x68, 0xDB, 0xA3, 0, 0, 0, 0, 0] ∧ t.raw = 30 ∧ t.pinkCtr = 4 ∧
        t.lfsr = 0xB6DB68A3)) = true := by decide
set_option maxRecDepth 8000 in
theorem test_pnoise_wrap :
    okAnd (exec .pnoise { start with pinkCtr := 127, lfsr := 0x387F34D9,
                                     band := #v[0xD9, 0x34, 0x38, 0x61, 0x6E, 0xB1, 0x42, 0] })
      (fun t => decide (t.band = #v[0xD9, 0x34, 0x38, 0x61, 0x6E, 0xB1, 0x42, 0x06] ∧ t.raw = 48 ∧ t.pinkCtr = 0)) =
      true := by decide

/-- V-SIL. -/
theorem test_silence :
    okAnd (exec .silence { start with raw := 5, pos := 3 }) (fun t => decide (t = { start with pos := 3 })) = true := by
  decide

/-- V-SCALE: rows 1, 9 and 12. -/
theorem test_scale : scale 255 255 = 254 ∧ scale 128 255 = 127 ∧ scale 200 100 = 78 := by decide

set_option maxRecDepth 8000 in
/-- V-VOL: the ends and a step. -/
theorem test_volumeSample :
    volumeSample 0x00F = 255 ∧ volumeSample 0x010 = 254 ∧ volumeSample 0x800 = 127 ∧ volumeSample 0xFF0 = 0 := by decide

/-! ### The host's words, and a run -/

set_option maxRecDepth 8000 in
theorem test_word_runs :
    okAnd (step (start.withFetchWord 4 0x2)) (fun t => decide (t.tick = 1 ∧ t.vol = 255)) = true ∧
    okAnd (step (start.withFetchWord 4 0x6)) (fun t => decide (t.raw = 0xB6)) = true ∧
    okAnd (step (start.withFetchWord 0 0)) (fun t => decide (t.reached = [true])) = true := by decide

set_option maxRecDepth 8000 in
/-- The opcode words of R101, placed as the next thing requested, run their operations. -/
theorem test_word_runs_events :
    okAnd (step ({ start with mode := 5, lfsr := 7 }.withFetchWord 4 0x8)) (fun t => decide (t.mode = 0 ∧ t.lfsr = 1)) = true ∧
    okAnd (step (start.withFetchWord 4 0x4)) (fun t => decide (t.sink = [0] ∧ t.pos = 1)) = true ∧
    okAnd (step ({ start with rise := true }.withFetchWord 4 0x1)) (fun t => decide (t.mode = 1)) = true := by decide

/-- P4, the step `E 7 1 0`: its first operation runs, the other two are left. -/
theorem test_step_priority :
    okAnd (step { start with dbLevel := true, rise := true, trace := [.request 0b0111 true 0] })
      (fun t => decide (t.todo = [.serviceTick true 0, .fgPoll] ∧ t.sink = [0] ∧ t.pos = 1 ∧ t.trace = [])) = true := by
  decide

theorem test_startRun_refuses :
    refusedWith (startRun start exampleConfig [.request 0b0100 false 0]) .traceWithoutReset = true ∧
    refusedWith (startRun start exampleConfig []) .traceWithoutReset = true ∧
    refusedWith (startRun start { exampleConfig with toneAmpl := 0 } [.request 0b1000 false 0]) .invalidConfig = true := by
  decide

/-- R109: a trace text, its lines, and the inputs it stands for (P1 with a shorter repeat). -/
theorem test_readTrace :
    readTrace "R\nS 0 0x8aF   # VOL\n\n A *2\nE 7 1 0\n".toList =
      some [⟨.r, 1⟩, ⟨.s 0 2223, 1⟩, ⟨.a, 2⟩, ⟨.e 7 (some (1, 0)), 1⟩] := by decide
theorem test_readTrace_refuses :
    readTrace "S 2 0".toList = none ∧ readTrace "E 2".toList = none ∧ readTrace "Q".toList = none ∧
    readTrace "A *".toList = none := by decide
theorem test_trace_inputs :
    traceInputs 2 [⟨.r, 1⟩, ⟨.next 5, 1⟩, ⟨.a, 0⟩, ⟨.d 3, 2⟩] =
      [.request 0b1000 false 0, .request 0b0010 true 5, .request 0b0010 true 5, .request 0b0001 false 0,
       .request 0b0010 false 5, .request 0b0010 false 5, .request 0b0001 false 0, .deadline 3, .deadline 3] := by decide

/-! ### Witnesses: for every obligation with hypotheses, a state and operands that meet them together -/

/-- N samples of a level. -/
def samplesOf (b : Bool) (n : Nat) : List (Bool × BitVec 12) := List.replicate n (b, 0)

theorem samplesOf_level (b : Bool) (n : Nat) : ∀ x ∈ samplesOf b n, x.1 = b :=
  fun _ h => by rw [List.eq_of_mem_replicate h]

/-- In mode 3 at the last position of the loop, with one request of three operations to come. -/
def busy : State := { start with mode := 3, pos := 15, vol := 255, trace := [.request 0b0111 true 0] }

theorem test_busy_inv : Inv busy where
  configValid := by decide
  romsCanonical := by decide
  lfsrNonzero := by decide
  countBelow := by decide
  posInRange := Or.inr (by decide)
  incLoaded := by decide
  outBelow := by decide
  todoTopLevel := by decide

/-- The frequency word is loaded in a tone mode without an update. -/
theorem test_tone_inv : Inv { start with mode := 5, inc := 0x028F5C28, out := 254, dbCount := 14, todo := [.fgPoll] } where
  configValid := by decide
  romsCanonical := by decide
  lfsrNonzero := by decide
  countBelow := by decide
  posInRange := Or.inr (by decide)
  incLoaded := by decide
  outBelow := by decide
  todoTopLevel := by decide

theorem test_witness_ResetWritesEveryRegister :
    (0b1000#4).getLsbD 3 = true ∧ (0b1111#4).getLsbD 3 = true ∧ start.cfg.valid = true ∧ start.cfg.oversample = 8 := by decide
theorem test_witness_ResetStateAgreesWithReset : ∃ t, exec .reset busy = .next t := ⟨_, rfl⟩
theorem test_witness_ServiceTickStepsFilterVolumeAndTick :
    start.cfg.debounceN ≤ 255 ∧ false = start.dbLevel ∧
    (true ≠ start.dbLevel ∧ ({ start with dbCount := 13 } : State).dbCount.toNat + 1 < start.cfg.debounceN) ∧
    start.cfg.debounceN ≤ ({ start with dbCount := 14 } : State).dbCount.toNat + 1 := by decide
theorem test_witness_VolumeIsInvertedReading :
    (∃ u, exec .audioTick { start with vol := 255 } = .next u) ∧ (255 : Nat) < 256 ∧ (15 : Nat) < 16 ∧
    volumeSample (BitVec.ofNat 12 (16 * 255 + 15)) = 0 ∧ volumeSample (BitVec.ofNat 12 (16 * 0 + 15)) = 255 :=
  ⟨⟨_, rfl⟩, by decide⟩
theorem test_witness_TickCountsServiceTicks :
    Instr.reset ∉ [Instr.serviceTick true 0, .audioTick, .serviceTick false 0] ∧
    ∃ t, execAll [.serviceTick true 0, .audioTick, .serviceTick false 0] start = .next t := ⟨by decide, _, rfl⟩
theorem test_witness_DebounceAcceptsNthSample :
    1 ≤ start.cfg.debounceN ∧ start.cfg.debounceN ≤ 255 ∧ start.dbCount = 0 ∧
    (∀ x ∈ samplesOf true 15, x.1 = !start.dbLevel) ∧ (samplesOf true 15).length = start.cfg.debounceN ∧
    (∀ x ∈ samplesOf true 14, x.1 = !start.dbLevel) ∧ (samplesOf true 14).length < start.cfg.debounceN :=
  ⟨by decide, by decide, rfl, samplesOf_level true 15, rfl, samplesOf_level true 14, by decide⟩
theorem test_witness_DebounceRejectsGlitches :
    start.cfg.debounceN ≤ 255 ∧ start.dbCount = 0 ∧ (∀ x ∈ samplesOf true 14, x.1 = !start.dbLevel) ∧
    (samplesOf true 14).length < start.cfg.debounceN :=
  ⟨by decide, rfl, samplesOf_level true 14, by decide⟩
theorem test_witness_SameEdgesAreTwoRunsApart :
    1 ≤ start.cfg.debounceN ∧ start.cfg.debounceN ≤ 255 ∧ start.dbCount = 0 ∧
    (samplesOf false 14 ++ samplesOf true 15).length < 2 * start.cfg.debounceN ∧
    (start.dbLevel = false ∧ start.fall = false) ∧
    ({ start with dbLevel := true } : State).dbLevel = true ∧ ({ start with dbLevel := true } : State).rise = false := by
  decide
theorem test_witness_FgPollConsumesEdges :
    ({ start with mode := 7, rise := true } : State).rise = true ∧ start.rise = false ∧
    ((0b0111#4).getLsbD 3 = false ∧ (0b0111#4).getLsbD 0 = true) ∧
    ∃ t, exec .audioTick busy = .next t := ⟨rfl, rfl, by decide, _, rfl⟩
theorem test_witness_EightRisingEdgesReturnMode :
    let f : Nat → State := fun n => { start with rise := true, mode := BitVec.ofNat 3 n }
    let g : Nat → State := fun n => { start with rise := false, pending := true, mode := BitVec.ofNat 3 n + 1 }
    (∀ n < 8, (f n).rise = true ∧ exec .fgPoll (f n) = .next (g n)) ∧ (∀ n < 7, (f (n + 1)).mode = (g n).mode) ∧
    start.rise = false :=
  ⟨fun _ _ => ⟨rfl, rfl⟩, by decide, rfl⟩
set_option maxRecDepth 8000 in
theorem test_witness_NextAdvancesMode :
    let s : State := { start with mode := 7, trace := (Event.next 9).inputs start.cfg.debounceN ++ [.deadline 3] }
    s.cfg.valid = true ∧ s.dbLevel = false ∧ s.dbCount = 0 ∧ s.rise = false ∧ s.todo = [] ∧
    s.trace = (Event.next 9).inputs s.cfg.debounceN ++ [.deadline 3] := by decide
theorem test_witness_EdgesCoalesceBetweenPolls :
    1 ≤ start.cfg.debounceN ∧ start.cfg.debounceN ≤ 255 ∧ start.dbLevel = false ∧ start.dbCount = 0 ∧
    (samplesOf true 15).length = start.cfg.debounceN ∧ (samplesOf false 15).length = start.cfg.debounceN ∧
    (∀ x ∈ samplesOf true 15, x.1 = true) ∧ (∀ x ∈ samplesOf false 15, x.1 = false) :=
  ⟨by decide, by decide, rfl, rfl, rfl, rfl, samplesOf_level true 15, samplesOf_level false 15⟩
theorem test_witness_ToneReturnsSampleThenAdvances :
    (Instr.tone1 = .tone0 ∨ Instr.tone1 = .tone1) ∧ (Instr.tone0 = .tone0 ∨ Instr.tone0 = .tone1) ∧ start.phase = 0 := by
  decide
theorem test_witness_TonePhaseClosedForm :
    ∀ j ∈ Instr.tone0 :: [Instr.tone1, .tone0], j = .tone0 ∨ j = .tone1 := by decide
theorem test_witness_SineRomIsFloorOfSine : 1 ≤ 1 ∧ 1 ≤ 127 ∧ 1 ≤ 100 ∧ 100 ≤ 127 := by decide
theorem test_witness_FrequencyWordIsExactFloor :
    start.cfg.toneFreq 0 < start.cfg.sampleRate ∧ start.cfg.toneFreq 1 < start.cfg.sampleRate ∧
    start.cfg.sampleRate = 88000 := by decide
theorem test_witness_LfsrNeverReachesZero : specLfsrTaps.getLsbD 31 = true ∧ (0x80000000 : Word) ≠ 0 := by decide
theorem test_witness_PnoiseRefreshesOneBand :
    ({ start with pinkCtr := 127 } : State).pinkCtr + 1 = 0 ∧ start.pinkCtr + 1 ≠ 0 := by decide
theorem test_witness_BandSevenWaitsForTheWrap : start.pinkCtr = 0 ∧ 127 ≤ 127 := by decide
theorem test_witness_LoopReturnsByteThenAdvances :
    busy.pos.toNat < busy.cfg.loopSpan 3 ∧ busy.cfg.loopSpan 3 ≤ 2 ^ 32 - 1 ∧
    busy.cfg.loopSpan 3 ≤ busy.pos.toNat + 1 ∧ ¬ start.cfg.loopSpan 3 ≤ start.pos.toNat + 1 := by decide
theorem test_witness_LoopOutsideRomIsRefused :
    (start.cfg.loop 3).len ≤ ({ start with pos := 16 } : State).pos.toNat / start.cfg.oversample := by decide
theorem test_witness_LoopPlaybackClosedForm :
    start.pos = 0 ∧ 1 ≤ start.cfg.loopSpan 2 ∧ start.cfg.loopSpan 2 ≤ 2 ^ 32 - 1 := by decide
theorem test_witness_SilenceReturnsZero : 8 ≤ (8 : BitVec 4).toNat ∧ 8 ≤ (15 : BitVec 4).toNat := by decide
theorem test_witness_ScaleTruncatesTheProduct : 1 ≤ (1 : Byte).toNat ∧ scale 1 255 = 0 := by decide

/-- Both clauses: no update in mode 3, an update in mode 4. -/
theorem test_witness_AudioTickRunsItsFourSteps :
    (busy.pending = false ∧ ∃ u, exec (decodeMsel (BitVec.ofNat 4 busy.mode.toNat)).instr busy = .next u) ∧
    ∃ u, exec (decodeMsel (BitVec.ofNat 4 4)).instr
      { start with mode := 4, pending := false, pos := 0, phase := 0, inc := start.cfg.freqWord 0 } = .next u :=
  ⟨⟨rfl, _, rfl⟩, _, rfl⟩
theorem test_witness_AudioTickCompletes :
    (busy.cfg.valid = true ∧ loopInRange busy) ∧
    loopInRange { start with mode := 2, pending := true, pos := 100 } :=
  ⟨⟨by decide, test_busy_inv.posInRange⟩, Or.inl rfl⟩
theorem test_witness_OtherGeneratorsKeepTheirRegisters :
    (∃ t, exec .audioTick busy = .next t) ∧ (∃ t, exec .audioTick { busy with mode := 5 } = .next t) ∧
    (∃ t, exec .audioTick { busy with mode := 6 } = .next t) ∧
    ∃ t, exec .audioTick { busy with mode := 7, pending := true } = .next t :=
  ⟨⟨_, rfl⟩, ⟨_, rfl⟩, ⟨_, rfl⟩, _, rfl⟩
theorem test_witness_EnteringToneModeStartsAtMidScale :
    let s : State := { start with mode := 4, pending := true }
    s.mode = 4 ∧ s.pending = true ∧ s.cfg.sampleRate = 88000 := by decide
theorem test_witness_EnteringLoopModeStartsAtFirstEntry :
    let s : State := { start with mode := 3, pending := true, pos := 0xFFFFFFFF }
    s.cfg.valid = true ∧ s.mode.toNat = (3 : Fin 4).val ∧ s.pending = true := by decide
theorem test_witness_OneSamplePerAudioTick : ∃ t, execAll [.audioTick, .fgPoll, .audioTick] start = .next t := ⟨_, rfl⟩
theorem test_witness_DeadlineIsTranslationInvariant : 2 ^ 31 - 1 ≤ 2 ^ 31 - 1 ∧ 2 ^ 31 ≤ 2 ^ 31 ∧
    deadlineReached 0x7FFFFFFF 0 = true ∧ deadlineReached 0x80000000 0 = false ∧ deadlineReached 0xFFFFFFFF 0 = false := by
  decide
theorem test_witness_DeadlineHorizonIsHalfTheRange : 5 ≤ 2 ^ 31 - 1 ∧ 4 < 5 ∧ 5 < 5 + 2 ^ 31 ∧
    deadlineReached 4 5 = false ∧ deadlineReached 5 5 = true ∧ deadlineReached 0x80000004 5 = true ∧
    deadlineReached 0x80000005 5 = false := by decide
theorem test_witness_EvDecodesInPriorityOrder : 8 ≤ (8 : BitVec 4).toNat ∧ 1 ≤ (7 : BitVec 4).toNat ∧
    (7 : BitVec 4).toNat < 8 := by decide
theorem test_witness_StepRunsDecodedOperation :
    busy.cfg.valid = true ∧ busy.todo = [] ∧ busy.trace = [.request 0b0111 true 0] ∧
    (Input.request 0b0111 true 0).ops = [.audioTick, .serviceTick true 0, .fgPoll] ∧
    ({ start with todo := [.fgPoll] } : State).todo = [.fgPoll] ∧ start.todo = [] ∧ start.trace = [] := by decide
theorem test_witness_RunsTheRequestedOperations :
    busy.cfg.valid = true ∧ busy.todo = [] ∧ busy.trace = [.request 0b0111 true 0] ++ [] := by decide
theorem test_witness_RunsEncodedOperations :
    let s : State := { start with trace := [.request 0b0010 true 9, .deadline 3] ++ [.request 0b0100 false 0] }
    s.cfg.valid = true ∧ s.todo = [] ∧
    [Input.request 0b0010 true 9, .deadline 3].map Input.bits =
      [Instr.serviceTick true 9, .deadlineCheck 3].map encode := by decide
theorem test_witness_SimultaneousRequestsKeepPriority :
    busy.cfg.valid = true ∧ loopInRange busy ∧ busy.todo = [] ∧ busy.trace = .request 0b0111 true 0 :: [] :=
  ⟨by decide, test_busy_inv.posInRange, rfl, rfl⟩
theorem test_witness_InvalidConfigIsRefused :
    ({ exampleConfig with toneAmpl := 0 } : Config).toneAmpl < 1 ∧
    127 < ({ exampleConfig with toneAmpl := 128 } : Config).toneAmpl ∧
    (({ exampleConfig with loops := exampleConfig.loops.set 3 ⟨0, []⟩ } : Config).loop 3).len = 0 ∧
    ({ exampleConfig with lfsrTaps := 3 } : Config).lfsrTaps.getLsbD 31 = false := by decide
theorem test_witness_RunBeginsWithReset :
    exampleConfig.valid = true ∧ startsWithReset [.request 0b0100 false 0] = false ∧
    startsWithReset [.request 0b1000 false 0, .request 0b0100 false 0] = true := by decide
theorem test_witness_RomContentsAreFixed : ∃ t, step busy = .next t := ⟨_, rfl⟩
theorem test_witness_LoadedRomReadsItsBytes : exampleConfig.loop 0 = LoopRom.ofBytes [0x00, 0x7F, 0xFF] ∧
    loopRom exampleConfig 0 0 = some 0x00 ∧ loopRom exampleConfig 0 2 = some 0xFF ∧
    loopRom exampleConfig 0 3 = none := by decide
theorem test_witness_CanonicalRomsAreExtensional :
    (LoopRom.mk 3 [(1, 0x7F), (2, 0xFF)]).wf = true ∧ (LoopRom.mk 3 [(1, 0x7F), (3, 0xFF)]).wf = false ∧
    (LoopRom.mk 3 [(0, 0), (1, 0x7F)]).wf = false ∧ (LoopRom.mk 3 [(2, 0xFF), (1, 0x7F)]).wf = false := by decide
theorem test_witness_AgentsWriteOnlyTheirRegisters :
    (∃ t, exec .fgPoll busy = .next t) ∧ agentOf .fgPoll = some .fg ∧ Agent.fg.mayWrite .vol = false ∧
    Agent.fg.mayWrite .mode = true := ⟨⟨_, rfl⟩, by decide⟩
theorem test_witness_InvariantAfterReset : exampleConfig.valid = true ∧ exampleConfig.romsWf = true := by decide
theorem test_witness_StepKeepsInvariant : Inv busy ∧ ∃ t, step busy = .next t := ⟨test_busy_inv, _, rfl⟩
theorem test_witness_NeverStops : Inv busy := test_busy_inv

/-- The same registers beside other records. -/
theorem test_witness_RegistersAreTheWholeState :
    let u : State := { busy with trace := [], todo := [.idle], raw := 7, sink := [1], reached := [true] }
    busy.toRegisters = u.toRegisters ∧ busy.cfg = u.cfg ∧ busy ≠ u ∧
    (∃ t, exec .audioTick busy = .next t) ∧ ∃ v, exec .audioTick u = .next v :=
  ⟨rfl, rfl, by decide, ⟨_, rfl⟩, _, rfl⟩

end Sys2Proof.Tests
end

section
/-! Which operation a step performs, and that what is still to come (`trace`, `todo`) is out of every operation's
reach: the machine's run of a trace is the sequence of operations its inputs decode to (spec/00_scope.md R11,
spec/30_encoding.md R106). -/
namespace Sys2Proof

/-! ### Decoding -/

/-- Decoding gives an encoded operation back, with its operands (R101 to R103). -/
@[simp] theorem decode_encode (i : Instr) : decode (encode i) = [i] := by
  cases i <;> rfl

/-- A request vector always yields an operation: where no bit is set it is IDLE (R104). -/
theorem decodeEv_ne_nil (ev : BitVec 4) (btn : Bool) (adc : BitVec 12) : decodeEv ev btn adc ≠ [] := by
  have hzero : ∀ w : BitVec 4, w.getLsbD 3 = false → w.getLsbD 2 = false → w.getLsbD 1 = false →
      w.getLsbD 0 = false → w = 0 := by decide
  unfold decodeEv
  split
  · simp
  · split
    · simp
    · rename_i h3 hne
      intro hnil
      simp only [List.append_eq_nil_iff, ite_eq_right_iff, List.cons_ne_nil, imp_false, Bool.not_eq_true] at hnil h3
      obtain ⟨⟨h2, h1⟩, h0⟩ := hnil
      exact hne (hzero ev h3 h2 h1 h0)

/-- Every input of the environment requests an operation (R104, R108). -/
theorem Input.ops_ne_nil : ∀ x : Input, x.ops ≠ []
  | .request ev btn adc => decodeEv_ne_nil ev btn adc
  | .deadline _ => List.cons_ne_nil _ _

/-- Inputs that present the encodings of operations request those operations. -/
theorem flatMap_ops_of_map_bits {inputs : List Input} {ops : List Instr}
    (h : inputs.map Input.bits = ops.map encode) : inputs.flatMap Input.ops = ops := by
  calc inputs.flatMap Input.ops = (inputs.map Input.bits).flatMap decode := by rw [List.flatMap_map]; rfl
    _ = (ops.map encode).flatMap decode := by rw [h]
    _ = ops := by simp [List.flatMap_map]

end Sys2Proof

namespace Sys2Proof.Machine

/-! ### The operation a step performs -/

/-- The rest of the current request comes first (R284). -/
theorem fetch_of_todo {s : State} {i : Instr} {rest : List Instr} (h : s.todo = i :: rest) :
    fetch s = (i, { s with todo := rest }) := by
  simp only [fetch, h]

/-- Where no request is in progress, the next input's first operation comes, the others of it left over (R106). -/
theorem fetch_of_trace {s : State} {x : Input} {inputs : List Input} {i : Instr} {rest : List Instr}
    (htodo : s.todo = []) (htrace : s.trace = x :: inputs) (hx : x.ops = i :: rest) :
    fetch s = (i, { s with trace := inputs, todo := rest }) := by
  simp only [fetch, htodo, htrace, hx]

/-- Where nothing is requested any more the block idles (R104). -/
theorem fetch_of_nothing {s : State} (htodo : s.todo = []) (htrace : s.trace = []) : fetch s = (.idle, s) := by
  simp only [fetch, htodo, htrace]

/-- A step in a valid configuration performs the operation fetched. -/
theorem step_of_fetch {s t : State} {i : Instr} (hv : s.cfg.valid = true) (h : fetch s = (i, t)) :
    step s = exec i t := by
  rw [step, if_pos hv, h]

/-- A step in a configuration without a meaning is refused (R9). -/
theorem step_of_invalid {s : State} (h : s.cfg.valid = false) : step s = .refused .invalidConfig := by
  simp [step, h]

/-! ### What is still to come -/

/-- `s` with other inputs to come and other leftovers of a request. -/
def State.requeue (trace : List Input) (todo : List Instr) (s : State) : State :=
  { s with trace := trace, todo := todo }

@[simp] theorem requeue_toRegisters (tr : List Input) (td : List Instr) (s : State) :
    (s.requeue tr td).toRegisters = s.toRegisters := rfl
@[simp] theorem requeue_cfg (tr : List Input) (td : List Instr) (s : State) : (s.requeue tr td).cfg = s.cfg := rfl

/-- The pending update does not depend on what is still to come. -/
theorem pendingStep_requeue (tr : List Input) (td : List Instr) (s : State) :
    pendingStep (s.requeue tr td) = (pendingStep s).requeue tr td := by
  rw [pendingStep, pendingStep, apply_ite (State.requeue tr td)]
  rfl

/-- A loop operation does not depend on what is still to come. -/
theorem loopStep_requeue (k : Fin 4) (tr : List Input) (td : List Instr) (s : State) :
    loopStep k (s.requeue tr td) = andThen (loopStep k s) fun t => .next (t.requeue tr td) := by
  simp only [loopStep, requeue_toRegisters, requeue_cfg]
  cases loopRom s.cfg k (loopIndex s.cfg.oversample s.pos) <;> rfl

/-- No generator operation depends on what is still to come. -/
theorem muxSelect_requeue (w : BitVec 4) (tr : List Input) (td : List Instr) (s : State) :
    muxSelect w (s.requeue tr td) = andThen (muxSelect w s) fun t => .next (t.requeue tr td) := by
  unfold muxSelect
  cases decodeMsel w with
  | loop0 => exact loopStep_requeue 0 tr td s
  | loop1 => exact loopStep_requeue 1 tr td s
  | loop2 => exact loopStep_requeue 2 tr td s
  | loop3 => exact loopStep_requeue 3 tr td s
  | tone0 | tone1 | wnoise | pnoise | silence => rfl

/-- AUDIO_TICK does not depend on what is still to come. -/
theorem execAudioTick_requeue (tr : List Input) (td : List Instr) (s : State) :
    execAudioTick (s.requeue tr td) = andThen (execAudioTick s) fun t => .next (t.requeue tr td) := by
  simp only [execAudioTick, pendingStep_requeue, muxSelect_requeue, requeue_toRegisters]
  cases muxSelect (mselOf s.mode) (pendingStep s) <;> rfl

/-- The debounce filter does not depend on what is still to come. -/
theorem debounceStep_requeue (b : Bool) (tr : List Input) (td : List Instr) (s : State) :
    debounceStep b (s.requeue tr td) = (debounceStep b s).requeue tr td := by
  rw [debounceStep, debounceStep, apply_ite (State.requeue tr td), apply_ite (State.requeue tr td)]
  cases b <;> rfl

/-- Polling RISE does not depend on what is still to come. -/
theorem pollRise_requeue (tr : List Input) (td : List Instr) (s : State) :
    pollRise (s.requeue tr td) = (pollRise s).requeue tr td := by
  rw [pollRise, pollRise, apply_ite (State.requeue tr td)]
  rfl

/-- Polling FALL does not depend on what is still to come. -/
theorem pollFall_requeue (tr : List Input) (td : List Instr) (s : State) :
    pollFall (s.requeue tr td) = (pollFall s).requeue tr td := by
  rw [pollFall, pollFall, apply_ite (State.requeue tr td)]
  rfl

/-- No operation depends on what is still to come: it stops alike, or leaves the same state beside it. -/
theorem exec_requeue (i : Instr) (tr : List Input) (td : List Instr) (s : State) :
    exec i (s.requeue tr td) = andThen (exec i s) fun t => .next (t.requeue tr td) := by
  cases i with
  | audioTick => exact execAudioTick_requeue tr td s
  | serviceTick btn adc =>
    simp only [exec, execServiceTick, debounceStep_requeue]
    rfl
  | fgPoll =>
    simp only [exec, execFgPoll, pollRise_requeue, pollFall_requeue]
    rfl
  | loop0 => exact loopStep_requeue 0 tr td s
  | loop1 => exact loopStep_requeue 1 tr td s
  | loop2 => exact loopStep_requeue 2 tr td s
  | loop3 => exact loopStep_requeue 3 tr td s
  | reset | idle | deadlineCheck goal | tone0 | tone1 | wnoise | pnoise | silence => rfl

/-! ### Steps -/

/-- Settles O43: the three sources of an operation, in the order `fetch` asks them. -/
theorem stepRunsDecodedOperation : Obligations.StepRunsDecodedOperation := by
  intro s hv
  refine ⟨fun i rest htodo => ?_, fun x inputs i rest htodo htrace hx => ?_, fun htodo htrace => ?_⟩
  · exact step_of_fetch hv (fetch_of_todo htodo)
  · exact step_of_fetch hv (fetch_of_trace htodo htrace hx)
  · exact step_of_fetch hv (fetch_of_nothing htodo htrace)

/-- A step takes the first of the operations still requested, and leaves the others requested. -/
theorem step_takes_first {inputs rest : List Input} {i : Instr} {ops : List Instr} {s : State}
    (hv : s.cfg.valid = true) (htrace : s.trace = inputs ++ rest)
    (hops : s.todo ++ inputs.flatMap Input.ops = i :: ops) :
    ∃ inputs' todo', step s = exec i (s.requeue (inputs' ++ rest) todo') ∧
      todo' ++ inputs'.flatMap Input.ops = ops := by
  cases htodo : s.todo with
  | cons j td =>
    rw [htodo, List.cons_append, List.cons.injEq] at hops
    obtain ⟨rfl, hrest⟩ := hops
    refine ⟨inputs, td, ?_, hrest⟩
    rw [← htrace]
    exact step_of_fetch hv (fetch_of_todo htodo)
  | nil =>
    cases inputs with
    | nil => simp [htodo] at hops
    | cons x inputs' =>
      obtain ⟨j, td, hx⟩ := List.exists_cons_of_ne_nil x.ops_ne_nil
      rw [htodo, List.nil_append, List.flatMap_cons, hx, List.cons_append, List.cons.injEq] at hops
      obtain ⟨rfl, hrest⟩ := hops
      exact ⟨inputs', td, step_of_fetch hv (fetch_of_trace htodo htrace hx), hrest⟩

/-- Running all operations still requested, the leftovers of a request and then those of the inputs, is performing
them in order. -/
theorem steps_eq_execAll {rest : List Input} (ops : List Instr) :
    ∀ {inputs : List Input} {s : State}, s.cfg.valid = true → s.trace = inputs ++ rest →
      s.todo ++ inputs.flatMap Input.ops = ops → steps ops.length s = execAll ops (s.requeue rest []) := by
  induction ops with
  | nil =>
    intro inputs s _ htrace hops
    obtain ⟨htodo, hinputs⟩ := List.append_eq_nil_iff.mp hops
    have hnil : inputs = [] := by
      cases inputs with
      | nil => rfl
      | cons x _ => simp [x.ops_ne_nil] at hinputs
    have hs : s.requeue rest [] = s := by rw [State.requeue, ← htodo, show rest = s.trace by simp [htrace, hnil]]
    rw [hs]
    rfl
  | cons i ops ih =>
    intro inputs s hv htrace hops
    obtain ⟨inputs', todo', hstep, hrest⟩ := step_takes_first hv htrace hops
    simp only [List.length_cons, steps, execAll]
    rw [hstep, exec_requeue, exec_requeue]
    cases hexec : exec i s with
    | next t =>
      obtain ⟨hcfg, -, -⟩ := exec_keeps hexec
      exact ih (s := t.requeue (inputs' ++ rest) todo') (hcfg ▸ hv) rfl hrest
    | fault r => cases r
    | refused r => rfl

/-- Settles O44: the run of everything requested, with no leftovers to begin with. -/
theorem runsTheRequestedOperations : Obligations.RunsTheRequestedOperations := by
  intro inputs rest s hv htodo htrace
  have hrun := steps_eq_execAll (inputs.flatMap Input.ops) hv htrace (by rw [htodo, List.nil_append])
  rwa [State.requeue, ← htodo] at hrun

/-- Settles O45: inputs with these encodings request just these operations, and their run performs them. -/
theorem runsEncodedOperations : Obligations.RunsEncodedOperations := by
  intro ops inputs rest s hv htodo hbits htrace
  have hrun := runsTheRequestedOperations inputs rest s hv htodo htrace
  rwa [flatMap_ops_of_map_bits hbits] at hrun

/-! ### Configurations without a meaning -/

/-- Settles O47: each alternative contradicts one part of a valid configuration (`valid_iff`). -/
theorem invalidConfigIsRefused : Obligations.InvalidConfigIsRefused := by
  intro s hbroken
  refine step_of_invalid (Bool.eq_false_iff.mpr fun hv => ?_)
  obtain ⟨-, hloops, hampl, hfreq, hdeb, htaps⟩ := (valid_iff s.cfg).mp hv
  obtain h | h | ⟨k, hk⟩ | h | h | h | ⟨j, hj, hle⟩ | h := hbroken
  · omega
  · omega
  · obtain ⟨hlen, hspan⟩ := hloops k
    rw [Config.loopSpan] at hspan
    omega
  · omega
  · omega
  · omega
  · have hlt : s.cfg.toneFreq j < s.cfg.sampleRate := by
      unfold Config.toneFreq
      split <;> omega
    omega
  · exact Bool.false_ne_true (h.symm.trans htaps)

end Sys2Proof.Machine
end

section
/-! Which agent writes which register (spec/10_state.md R51): the frame of each agent's operations, as one equation that
names the fields the operation may change. -/
namespace Sys2Proof.Machine

/-! ### The generator operations as the multiplexer runs them -/

/-- An operation with a word on the select bus is what the multiplexer runs for that word (R102, R186). -/
theorem exec_of_encode_msel {i : Instr} {w : BitVec 4} (hi : encode i = .msel w) (s : State) :
    exec i s = muxSelect w s := by
  cases i with
  | reset | audioTick | serviceTick btn adc | fgPoll | idle | deadlineCheck goal => cases hi
  | loop0 | loop1 | loop2 | loop3 | tone0 | tone1 | wnoise | pnoise | silence =>
    cases hi
    rfl

/-! ### What each operation leaves unchanged -/

/-- A generator operation changes its own registers and the raw sample, and nothing else (R186). -/
theorem muxSelect_frame {w : BitVec 4} {s t : State} (h : muxSelect w s = .next t) :
    t = { s with pos := t.pos, phase := t.phase, lfsr := t.lfsr, band := t.band, pinkCtr := t.pinkCtr,
                 raw := t.raw } := by
  obtain ⟨k, v, rfl⟩ | rfl | rfl | rfl | rfl := muxSelect_cases h <;> rfl

/-- The pending update changes PENDING, POS, PHASE and INC, and nothing else (R231). -/
theorem pendingStep_frame (s : State) :
    pendingStep s =
      { s with pending := false, pos := (pendingStep s).pos, phase := (pendingStep s).phase,
               inc := (pendingStep s).inc } := by
  cases hp : s.pending with
  | true =>
    simp only [pendingStep, hp, if_true]
    rfl
  | false =>
    simp only [pendingStep, hp, Bool.false_eq_true, if_false]
    rw [← hp]

/-- AUDIO_TICK changes PENDING, the generators' registers, the raw sample and OUT, puts out what it leaves in OUT, and
changes nothing else (R230). -/
theorem execAudioTick_frame {s t : State} (h : execAudioTick s = .next t) :
    t = { s with pending := false, pos := t.pos, phase := t.phase, inc := t.inc, lfsr := t.lfsr, band := t.band,
                 pinkCtr := t.pinkCtr, raw := t.raw, out := t.out, sink := s.sink ++ [t.out] } := by
  obtain ⟨u, hmux, rfl⟩ := execAudioTick_eq_next.mp h
  rw [muxSelect_frame hmux, pendingStep_frame s]
  rfl

/-- The debounce filter changes its own registers and the edge flags, and nothing else (R252). -/
theorem debounceStep_frame (b : Bool) (s : State) :
    debounceStep b s =
      { s with dbLevel := (debounceStep b s).dbLevel, dbCount := (debounceStep b s).dbCount,
               rise := (debounceStep b s).rise, fall := (debounceStep b s).fall } := by
  unfold debounceStep postEdge
  repeat' split
  all_goals rfl

/-- Polling RISE changes RISE, MODE and PENDING, and nothing else (R211). -/
theorem pollRise_frame (s : State) :
    pollRise s =
      { s with rise := (pollRise s).rise, mode := (pollRise s).mode, pending := (pollRise s).pending } := by
  unfold pollRise
  split <;> rfl

/-- Polling FALL changes FALL, and nothing else (R211). -/
theorem pollFall_frame (s : State) : pollFall s = { s with fall := (pollFall s).fall } := by
  unfold pollFall
  split <;> rfl

/-! ### Ownership -/

/-- `t` holds what `s` holds in every register the agent may not write (R51). -/
def Agent.Respects (a : Agent) (s t : State) : Prop := ∀ r, a.mayWrite r = false → t.readReg r = s.readReg r

/-- A generator operation writes only registers of AUDIO. -/
theorem respects_of_muxSelect {w : BitVec 4} {s t : State} (h : muxSelect w s = .next t) :
    Agent.audio.Respects s t := by
  intro r
  rw [muxSelect_frame h]
  cases r <;> simp [Agent.mayWrite, State.readReg, Registers.read]

/-- AUDIO_TICK writes only registers of AUDIO. -/
theorem respects_of_execAudioTick {s t : State} (h : execAudioTick s = .next t) : Agent.audio.Respects s t := by
  intro r
  rw [execAudioTick_frame h]
  cases r <;> simp [Agent.mayWrite, State.readReg, Registers.read]

/-- SERVICE_TICK writes only registers of SERVICE. -/
theorem service_respects (btn : Bool) (adc : BitVec 12) (s : State) :
    Agent.service.Respects s (tickStep (volumeStep adc (debounceStep btn s))) := by
  intro r
  rw [debounceStep_frame]
  cases r <;> simp [Agent.mayWrite, State.readReg, Registers.read]

/-- FG_POLL writes only registers of FG. -/
theorem fg_respects (s : State) : Agent.fg.Respects s (pollFall (pollRise s)) := by
  intro r
  rw [pollFall_frame, pollRise_frame]
  cases r <;> simp [Agent.mayWrite, State.readReg, Registers.read]

/-- Settles O52: the frame of the operation's agent; RESET's agent owns every register. -/
theorem agentsWriteOnlyTheirRegisters : Obligations.AgentsWriteOnlyTheirRegisters := by
  intro i s t h r hr
  cases i with
  | reset => exact absurd (hr .reset rfl) (by simp [Agent.mayWrite])
  | audioTick => exact respects_of_execAudioTick h r (hr .audio rfl)
  | serviceTick btn adc =>
    cases h
    exact service_respects btn adc s r (hr .service rfl)
  | fgPoll =>
    cases h
    exact fg_respects s r (hr .fg rfl)
  | idle | deadlineCheck goal =>
    cases h
    rfl
  | loop0 | loop1 | loop2 | loop3 | tone0 | tone1 | wnoise | pnoise | silence =>
    rw [exec_of_encode_msel rfl] at h
    exact respects_of_muxSelect h r (hr .audio rfl)

end Sys2Proof.Machine
end

section
/-! What an operation can depend on. AUDIO_TICK sees nothing of the registers SERVICE and FG own alone
(spec/10_state.md R51), and no operation sees anything beside the fifteen registers and the configuration (R30). -/
namespace Sys2Proof.Machine

/-! ### What AUDIO_TICK works on -/

/-- The machine `o` with the part of `s` AUDIO_TICK works on: the registers AUDIO reads or writes and the
configuration. From `o` stay the registers SERVICE and FG own alone, and the model's own records. -/
def State.withAudioPart (s o : State) : State :=
  { o with mode := s.mode, pending := s.pending, pos := s.pos, phase := s.phase, inc := s.inc, lfsr := s.lfsr,
           band := s.band, pinkCtr := s.pinkCtr, vol := s.vol, out := s.out, cfg := s.cfg }

@[simp] theorem withAudioPart_mode (s o : State) : (s.withAudioPart o).mode = s.mode := rfl
@[simp] theorem withAudioPart_pos (s o : State) : (s.withAudioPart o).pos = s.pos := rfl
@[simp] theorem withAudioPart_cfg (s o : State) : (s.withAudioPart o).cfg = s.cfg := rfl

/-- The pending update reads and writes the audio part alone. -/
theorem pendingStep_withAudioPart (s o : State) :
    pendingStep (s.withAudioPart o) = (pendingStep s).withAudioPart o := by
  rw [pendingStep, pendingStep, apply_ite (State.withAudioPart · o)]
  rfl

/-- A loop operation reads and writes the audio part alone, and returns its raw sample. -/
theorem loopStep_withAudioPart (k : Fin 4) (s o : State) :
    loopStep k (s.withAudioPart o) = andThen (loopStep k s) fun t => .next (t.withAudioPart (returnRaw t.raw o)) := by
  simp only [loopStep, withAudioPart_cfg, withAudioPart_pos]
  cases loopRom s.cfg k (loopIndex s.cfg.oversample s.pos) <;> rfl

/-- A generator operation reads and writes the audio part alone, and returns its raw sample. -/
theorem muxSelect_withAudioPart (w : BitVec 4) (s o : State) :
    muxSelect w (s.withAudioPart o) = andThen (muxSelect w s) fun t => .next (t.withAudioPart (returnRaw t.raw o)) := by
  unfold muxSelect
  cases decodeMsel w with
  | loop0 => exact loopStep_withAudioPart 0 s o
  | loop1 => exact loopStep_withAudioPart 1 s o
  | loop2 => exact loopStep_withAudioPart 2 s o
  | loop3 => exact loopStep_withAudioPart 3 s o
  | tone0 | tone1 | wnoise | pnoise | silence => rfl

/-- AUDIO_TICK reads and writes the audio part alone, and puts out its sample. -/
theorem execAudioTick_withAudioPart (s o : State) :
    execAudioTick (s.withAudioPart o) =
      andThen (execAudioTick s) fun t => .next (t.withAudioPart (emitSample t.out (returnRaw t.raw o))) := by
  simp only [execAudioTick, pendingStep_withAudioPart, muxSelect_withAudioPart, withAudioPart_mode]
  cases muxSelect (mselOf s.mode) (pendingStep s) <;> rfl

/-- Settles O35: the two machines have the same audio part, and the rest stays as it was (`execAudioTick_frame`). -/
theorem sampleIgnoresOtherAgentsRegisters : Obligations.SampleIgnoresOtherAgentsRegisters := by
  intro s level rise fall count tick
  refine (execAudioTick_withAudioPart s
    { s with dbLevel := level, dbCount := count, rise := rise, fall := fall, tick := tick }).trans ?_
  cases h : execAudioTick s with
  | next t =>
    simp only [exec, h, andThen_next]
    rw [execAudioTick_frame h]
    rfl
  | fault r => cases r
  | refused r =>
    simp only [exec, h]
    rfl

/-! ### The registers and the configuration -/

/-- The machine `o`, with the model's own records it holds, on the registers and the configuration of `s`. -/
def State.withRecordsOf (s o : State) : State := { o with toRegisters := s.toRegisters, cfg := s.cfg }

/-- Its audio part is that of `s`. -/
theorem withAudioPart_withRecordsOf (s o : State) : s.withAudioPart (s.withRecordsOf o) = s.withRecordsOf o := rfl

/-- A machine with the registers and the configuration of `s` is `s` beside other records. -/
theorem eq_withRecordsOf {s u : State} (hregs : s.toRegisters = u.toRegisters) (hcfg : s.cfg = u.cfg) :
    u = s.withRecordsOf u := by
  rw [State.withRecordsOf, hregs, hcfg]

/-- The debounce filter reads and writes no record. -/
theorem debounceStep_withRecordsOf (b : Bool) (s o : State) :
    debounceStep b (s.withRecordsOf o) = (debounceStep b s).withRecordsOf o := by
  rw [debounceStep, debounceStep, apply_ite (State.withRecordsOf · o), apply_ite (State.withRecordsOf · o)]
  cases b <;> rfl

/-- Polling RISE reads and writes no record. -/
theorem pollRise_withRecordsOf (s o : State) : pollRise (s.withRecordsOf o) = (pollRise s).withRecordsOf o := by
  rw [pollRise, pollRise, apply_ite (State.withRecordsOf · o)]
  rfl

/-- Polling FALL reads and writes no record. -/
theorem pollFall_withRecordsOf (s o : State) : pollFall (s.withRecordsOf o) = (pollFall s).withRecordsOf o := by
  rw [pollFall, pollFall, apply_ite (State.withRecordsOf · o)]
  rfl

/-- A generator operation leaves the same registers whatever the records hold. -/
theorem registersOf_muxSelect_withRecordsOf (w : BitVec 4) (s o : State) :
    registersOf (muxSelect w (s.withRecordsOf o)) = registersOf (muxSelect w s) := by
  rw [← withAudioPart_withRecordsOf, muxSelect_withAudioPart]
  cases h : muxSelect w s with
  | next t =>
    rw [muxSelect_frame h]
    rfl
  | fault r => rfl
  | refused r => rfl

/-- AUDIO_TICK leaves the same registers whatever the records hold. -/
theorem registersOf_execAudioTick_withRecordsOf (s o : State) :
    registersOf (execAudioTick (s.withRecordsOf o)) = registersOf (execAudioTick s) := by
  rw [← withAudioPart_withRecordsOf, execAudioTick_withAudioPart]
  cases h : execAudioTick s with
  | next t =>
    rw [execAudioTick_frame h]
    rfl
  | fault r => rfl
  | refused r => rfl

/-- An operation stops alike or leaves the same registers, whatever the records hold (R30, R50). -/
theorem registersOf_exec_withRecordsOf (i : Instr) (s o : State) :
    registersOf (exec i (s.withRecordsOf o)) = registersOf (exec i s) := by
  cases i with
  | reset | idle | deadlineCheck goal => rfl
  | audioTick => exact registersOf_execAudioTick_withRecordsOf s o
  | serviceTick btn adc =>
    simp only [exec, execServiceTick, debounceStep_withRecordsOf]
    rfl
  | fgPoll =>
    simp only [exec, execFgPoll, pollRise_withRecordsOf, pollFall_withRecordsOf]
    rfl
  | loop0 | loop1 | loop2 | loop3 | tone0 | tone1 | wnoise | pnoise | silence =>
    rw [exec_of_encode_msel rfl, exec_of_encode_msel rfl]
    exact registersOf_muxSelect_withRecordsOf _ s o

/-! ### What an operation puts out -/

/-- The samples an operation emits, where it leaves `out` in OUT: AUDIO_TICK that one, no other operation any
(R234, R235). -/
def emittedBy (i : Instr) (out : Byte) : List Byte := if i = .audioTick then [out] else []

/-- The answers an operation gives on `reached`, at the TICK it runs at: DEADLINE_CHECK its own, no other operation
any (R103, R258). -/
def answeredBy (i : Instr) (tick : Word) : List Bool :=
  match i with
  | .deadlineCheck goal => [deadlineReached tick goal]
  | _ => []

/-- What an operation puts out: its sample and its answer, after those put out before. -/
theorem exec_outputs {i : Instr} {s t : State} (h : exec i s = .next t) :
    t.sink = s.sink ++ emittedBy i t.out ∧ t.reached = s.reached ++ answeredBy i s.tick := by
  cases i with
  | audioTick =>
    rw [execAudioTick_frame h]
    exact ⟨rfl, (List.append_nil _).symm⟩
  | reset | idle | deadlineCheck goal | serviceTick btn adc | fgPoll =>
    cases h
    simp [emittedBy, answeredBy]
  | loop0 | loop1 | loop2 | loop3 | tone0 | tone1 | wnoise | pnoise | silence =>
    rw [exec_of_encode_msel rfl] at h
    rw [muxSelect_frame h]
    exact ⟨(List.append_nil _).symm, (List.append_nil _).symm⟩

/-- Settles O56: the registers by `registersOf_exec_withRecordsOf`; and what is put out is read off the registers
before and after (`exec_outputs`), which are the same in both machines. -/
theorem registersAreTheWholeState : Obligations.RegistersAreTheWholeState := by
  intro i s u hregs hcfg
  have hsame : registersOf (exec i s) = registersOf (exec i u) := by
    rw [eq_withRecordsOf hregs hcfg]
    exact (registersOf_exec_withRecordsOf i s u).symm
  refine ⟨hsame, fun t v ht hv => ?_⟩
  obtain ⟨hsink, hreached⟩ := exec_outputs ht
  obtain ⟨hsink', hreached'⟩ := exec_outputs hv
  have hout : v.out = t.out := by
    rw [ht, hv] at hsame
    injection hsame with hregs'
    rw [hregs']
  have htick : u.tick = s.tick := by rw [hregs]
  exact ⟨_, _, hsink, hout ▸ hsink', hreached, htick ▸ hreached'⟩

end Sys2Proof.Machine
end

section
/-! The invariant of reachable states (spec/10_state.md R52): RESET establishes it, each state change keeps it, and so
every step of the machine does. -/
namespace Sys2Proof.Machine

/-! ### The shift register never reaches zero (R152) -/

/-- The shift drops bit 31 alone, so a register it sends to zero has at most that bit set. -/
theorem eq_zero_or_top_of_setWidth_eq_zero {l : Word} (h : (l.setWidth 31).toNat = 0) :
    l = 0 ∨ l = BitVec.twoPow 32 31 := by
  rw [BitVec.toNat_setWidth] at h
  have htop : (BitVec.twoPow 32 31).toNat = 2 ^ 31 := rfl
  bv_omega

/-- With taps that contain bit 31 a nonzero register steps to a nonzero one: where only the dropped bit was set, the
parity of the taps comes in as a 1 (R151, R152). -/
theorem lfsrStep_ne_zero {taps l : Word} (htap : taps.getLsbD 31 = true) (hl : l ≠ 0) : lfsrStep taps l ≠ 0 := by
  intro hzero
  have hsum : (l.setWidth 31).toNat * 2 + (parity (l &&& taps)).toNat = 0 :=
    (BitVec.toNat_concat _ _).symm.trans (congrArg BitVec.toNat hzero)
  obtain rfl | rfl := eq_zero_or_top_of_setWidth_eq_zero (l := l) (by omega)
  · exact hl rfl
  · rw [BitVec.twoPow_and, if_pos htap] at hsum
    exact absurd hsum (by decide)

/-- No number of steps leads from a nonzero register to zero (R152). -/
theorem lfsrSteps_ne_zero {taps : Word} (htap : taps.getLsbD 31 = true) (n : Nat) {l : Word} (hl : l ≠ 0) :
    lfsrSteps taps n l ≠ 0 := by
  induction n generalizing l with
  | zero => exact hl
  | succ n ih => exact ih (lfsrStep_ne_zero htap hl)

/-! ### What the fields of the invariant rest on -/

/-- A valid configuration gives every loop a position (R9). -/
theorem loopSpan_pos {c : Config} (hv : c.valid = true) (k : Fin 4) : 0 < c.loopSpan k := by
  obtain ⟨hF, hloops, -⟩ := (valid_iff c).mp hv
  exact Nat.mul_pos (hloops k).1 hF

/-- A valid configuration asks for at least one sample to accept a level (R9). -/
theorem debounceN_pos {c : Config} (hv : c.valid = true) : 0 < c.debounceN := by
  obtain ⟨-, -, -, -, ⟨hN, -⟩, -⟩ := (valid_iff c).mp hv
  exact hN

/-- A valid configuration has bit 31 among the taps (R9). -/
theorem lfsrTaps_top {c : Config} (hv : c.valid = true) : c.lfsrTaps.getLsbD 31 = true := by
  obtain ⟨-, -, -, -, -, htaps⟩ := (valid_iff c).mp hv
  exact htaps

/-- A valid configuration never brings LFSR from a nonzero value to zero (R152, R153). -/
theorem whiteNext_ne_zero {c : Config} {l : Word} (hv : c.valid = true) (hl : l ≠ 0) :
    whiteNext c.lfsrTaps l ≠ 0 :=
  lfsrSteps_ne_zero (lfsrTaps_top hv) 8 hl

/-- Position 0 is in range in every mode (R52 c). -/
theorem loopInRange_of_pos_zero {s : State} (hv : s.cfg.valid = true) (hpos : s.pos = 0) : loopInRange s :=
  .inr fun k _ => by simpa [hpos] using loopSpan_pos hv k

/-- A scaled sample is at most 254, the value of `Scale(255, 255)` (R233). -/
theorem scale_le (raw vol : Byte) : (scale raw vol).toNat ≤ 254 := by
  have hprod : raw.toNat * vol.toNat ≤ 255 * 255 :=
    Nat.mul_le_mul (Nat.le_of_lt_succ raw.isLt) (Nat.le_of_lt_succ vol.isLt)
  rw [scale_toNat]
  omega

/-! ### RESET -/

/-- The reset registers by number: LFSR holds 1, every other one 0 (R310). -/
theorem read_registers_reset (r : Register) : Registers.reset.read r = if r = .lfsr then 1 else 0 := by
  cases r with
  | band i => simp [Registers.read, Registers.reset, Vector.get]
  | lfsr => rfl
  | mode | pending | pos | phase | inc | pinkCtr | vol | dbLevel | dbCount | rise | fall | tick | out => rfl

/-- Settles O2: RESET leaves the reset registers, which State.resetWith holds in every configuration, and keeps the
records. -/
theorem resetStateAgreesWithReset : Obligations.ResetStateAgreesWithReset := by
  intro s t c r h
  cases h
  exact ⟨rfl, rfl, read_registers_reset r, rfl, rfl, rfl, rfl⟩

/-- The reset registers meet the invariant in every configuration with a meaning (R53). -/
theorem inv_of_registers_reset {s : State} (hregs : s.toRegisters = Registers.reset) (hv : s.cfg.valid = true)
    (hroms : s.cfg.romsWf = true) (htodo : ∀ i ∈ s.todo, topLevel i = true) : Inv s where
  configValid := hv
  romsCanonical := hroms
  lfsrNonzero := by rw [hregs]; decide
  countBelow := by rw [hregs]; exact debounceN_pos hv
  posInRange := loopInRange_of_pos_zero hv (by rw [hregs]; rfl)
  incLoaded := by rw [hregs]; exact fun htone => absurd htone (by decide)
  outBelow := by rw [hregs]; decide
  todoTopLevel := htodo

/-- Settles O53: the state after RESET holds the reset registers and no request. -/
theorem invariantAfterReset : Obligations.InvariantAfterReset := by
  have hreset : ∀ c : Config, c.valid = true → c.romsWf = true → Inv (State.resetWith c) :=
    fun c hv hroms => inv_of_registers_reset rfl hv hroms (List.forall_mem_nil _)
  exact ⟨hreset, hreset exampleConfig (by decide) romsWf_reset⟩

/-! ### AUDIO_TICK -/

/-- The pending update brings POS into the loop and loads the frequency word, so nothing waits for it any more
(R231). -/
theorem Inv.after_pendingStep {s : State} (h : Inv s) : Inv (pendingStep s) where
  configValid := by simpa using h.configValid
  romsCanonical := by simpa using h.romsCanonical
  lfsrNonzero := by simpa using h.lfsrNonzero
  countBelow := by simpa using h.countBelow
  posInRange := by
    cases hp : s.pending with
    | true => exact loopInRange_of_pos_zero (by simpa using h.configValid) (by simp [hp])
    | false => simpa [loopInRange, hp] using h.posInRange
  incLoaded := fun htone _ => by
    have hmode : isToneMode s.mode = true := by simpa using htone
    cases hp : s.pending with
    | true => simp [hp, hmode]
    | false => simpa [hp] using h.incLoaded hmode hp
  outBelow := by simpa using h.outBelow
  todoTopLevel := by simpa using h.todoTopLevel

/-- The byte a loop returns moves POS to a position of the loop of the current mode (R182, R183). -/
theorem Inv.after_loopAdvance {s : State} {k : Fin 4} (h : Inv s) (hk : loopOfMode s.mode = some k) (v : Byte) :
    Inv (loopAdvance k v s) :=
  { h with
    posInRange := .inr fun j hj => by
      obtain rfl : k = j := Option.some.inj (hk.symm.trans hj)
      exact nextPos_lt (loopSpan_pos h.configValid k) }

/-- A tone step writes no register of which the invariant says anything. -/
theorem Inv.after_toneStep {s : State} (h : Inv s) : Inv (toneStep s) := { h with }

/-- White noise moves LFSR by single-bit steps (R153). -/
theorem Inv.after_whiteStep {s : State} (h : Inv s) : Inv (whiteStep s) :=
  { h with lfsrNonzero := whiteNext_ne_zero h.configValid h.lfsrNonzero }

/-- Pink noise moves LFSR as white noise does (R156). -/
theorem Inv.after_pinkStep {s : State} (h : Inv s) : Inv (pinkStep s) :=
  { h with lfsrNonzero := whiteNext_ne_zero h.configValid h.lfsrNonzero }

/-- What the generator of a mode can do: a loop mode advances its own loop, the others step the tone, the white or the
pink noise; none is silent (R186). -/
theorem muxSelect_mselOf_cases {m : BitVec 3} {s t : State} (h : muxSelect (mselOf m) s = .next t) :
    (∃ k v, loopOfMode m = some k ∧ t = loopAdvance k v s) ∨ t = toneStep s ∨ t = whiteStep s ∨ t = pinkStep s := by
  have hmodes : ∀ m : BitVec 3, m = 0 ∨ m = 1 ∨ m = 2 ∨ m = 3 ∨ m = 4 ∨ m = 5 ∨ m = 6 ∨ m = 7 := by decide
  obtain rfl | rfl | rfl | rfl | rfl | rfl | rfl | rfl := hmodes m
  · exact .inl ⟨0, _, rfl, (loopStep_eq_next.mp h).2⟩
  · exact .inl ⟨1, _, rfl, (loopStep_eq_next.mp h).2⟩
  · exact .inl ⟨2, _, rfl, (loopStep_eq_next.mp h).2⟩
  · exact .inl ⟨3, _, rfl, (loopStep_eq_next.mp h).2⟩
  · cases h; exact .inr (.inl rfl)
  · cases h; exact .inr (.inl rfl)
  · cases h; exact .inr (.inr (.inl rfl))
  · cases h; exact .inr (.inr (.inr rfl))

/-- The generator of the current mode keeps the invariant. -/
theorem Inv.after_muxSelect {s t : State} (h : Inv s) (hmux : muxSelect (mselOf s.mode) s = .next t) : Inv t := by
  obtain ⟨k, v, hk, rfl⟩ | rfl | rfl | rfl := muxSelect_mselOf_cases hmux
  · exact h.after_loopAdvance hk v
  · exact h.after_toneStep
  · exact h.after_whiteStep
  · exact h.after_pinkStep

/-- AUDIO_TICK keeps the invariant: each of its four steps does (R230). -/
theorem Inv.after_execAudioTick {s t : State} (h : Inv s) (hexec : execAudioTick s = .next t) : Inv t := by
  obtain ⟨u, hmux, rfl⟩ := execAudioTick_eq_next.mp hexec
  rw [← pendingStep_mode] at hmux
  exact { h.after_pendingStep.after_muxSelect hmux with outBelow := scale_le u.raw u.vol }

/-! ### SERVICE_TICK and FG_POLL -/

/-- The invariant says nothing of the edge flags. -/
theorem Inv.after_postEdge {s : State} (h : Inv s) (b : Bool) : Inv (postEdge b s) := by
  cases b <;> exact { h with }

/-- The debounce filter counts no further than N - 1 (R252). -/
theorem Inv.after_debounceStep {s : State} (h : Inv s) (b : Bool) : Inv (debounceStep b s) := by
  have hzero : (0 : Byte).toNat < s.cfg.debounceN := debounceN_pos h.configValid
  by_cases hb : b = s.dbLevel
  · rw [debounceStep_of_eq hb]
    exact { h with countBelow := hzero }
  · by_cases hN : s.cfg.debounceN ≤ s.dbCount.toNat + 1
    · rw [debounceStep_accept hb hN]
      have haccepted : Inv { s with dbLevel := b, dbCount := 0 } := { h with countBelow := hzero }
      exact haccepted.after_postEdge b
    · have hlt : s.dbCount.toNat + 1 < s.cfg.debounceN := Nat.lt_of_not_le hN
      rw [debounceStep_count hb hlt]
      refine { h with countBelow := lt_of_le_of_lt ?_ hlt }
      rw [BitVec.toNat_add]
      exact Nat.mod_le _ _

/-- FG_POLL keeps the invariant: where it moves MODE it also asks for the pending update (R211). -/
theorem Inv.after_pollRise {s : State} (h : Inv s) : Inv (pollRise s) := by
  unfold pollRise
  split
  · exact { h with posInRange := .inl rfl, incLoaded := fun _ hclear => absurd hclear (by simp) }
  · exact h

/-- Consuming FALL touches nothing the invariant speaks of (R211). -/
theorem Inv.after_pollFall {s : State} (h : Inv s) : Inv (pollFall s) := by
  unfold pollFall
  split
  · exact { h with }
  · exact h

/-! ### Every step -/

/-- Every operation the environment can request keeps the invariant. -/
theorem Inv.after_exec {i : Instr} {s t : State} (h : Inv s) (hi : topLevel i = true) (hexec : exec i s = .next t) :
    Inv t := by
  cases i with
  | reset =>
    cases hexec
    exact inv_of_registers_reset rfl h.configValid h.romsCanonical h.todoTopLevel
  | audioTick => exact h.after_execAudioTick hexec
  | serviceTick btn adc =>
    cases hexec
    exact { h.after_debounceStep btn with }
  | fgPoll =>
    cases hexec
    exact h.after_pollRise.after_pollFall
  | idle =>
    cases hexec
    exact h
  | deadlineCheck goal =>
    cases hexec
    exact { h with }
  | loop0 | loop1 | loop2 | loop3 | tone0 | tone1 | wnoise | pnoise | silence => cases hi

/-- The environment requests events and the comparator only (R31, R106). -/
theorem topLevel_of_mem_ops {x : Input} {i : Instr} (h : i ∈ x.ops) : topLevel i = true := by
  cases x with
  | deadline goal =>
    obtain rfl := List.mem_singleton.mp h
    rfl
  | request ev btn adc =>
    change i ∈ decodeEv ev btn adc at h
    unfold decodeEv at h
    split at h
    · obtain rfl := List.mem_singleton.mp h
      rfl
    · split at h
      · obtain rfl := List.mem_singleton.mp h
        rfl
      · simp only [List.mem_append, List.mem_ite_nil_right, List.mem_singleton] at h
        obtain (⟨-, rfl⟩ | ⟨-, rfl⟩) | ⟨-, rfl⟩ := h <;> rfl

/-- Only the leftovers of a request enter the invariant of what is still to come. -/
theorem Inv.after_requeue {s : State} (h : Inv s) (tr : List Input) {td : List Instr}
    (htop : ∀ i ∈ td, topLevel i = true) : Inv (s.requeue tr td) :=
  { h with todoTopLevel := htop }

/-- Taking the next operation keeps the invariant, and the operation is one the environment can request. -/
theorem Inv.after_fetch {s : State} (h : Inv s) : topLevel (fetch s).1 = true ∧ Inv (fetch s).2 := by
  cases htodo : s.todo with
  | cons i rest =>
    obtain ⟨hi, hrest⟩ := List.forall_mem_cons.mp (htodo ▸ h.todoTopLevel)
    rw [fetch_of_todo htodo]
    exact ⟨hi, h.after_requeue s.trace hrest⟩
  | nil =>
    cases htrace : s.trace with
    | nil =>
      rw [fetch_of_nothing htodo htrace]
      exact ⟨rfl, h⟩
    | cons x inputs =>
      obtain ⟨i, rest, hx⟩ := List.exists_cons_of_ne_nil x.ops_ne_nil
      have htop : ∀ j ∈ x.ops, topLevel j = true := fun _ => topLevel_of_mem_ops
      obtain ⟨hi, hrest⟩ := List.forall_mem_cons.mp (hx ▸ htop)
      rw [fetch_of_trace htodo htrace hx]
      exact ⟨hi, h.after_requeue inputs hrest⟩

/-- Settles O54: a step is the fetch of an operation and its execution, and both keep the invariant. -/
theorem stepKeepsInvariant : Obligations.StepKeepsInvariant := by
  intro s t h hstep
  obtain ⟨-, hexec⟩ := step_eq_next.mp hstep
  obtain ⟨htop, hfetched⟩ := h.after_fetch
  exact hfetched.after_exec htop hexec

end Sys2Proof.Machine
end

section
/-! The read-only spaces (spec/20_memory.md): what a loaded loop ROM reads, a loop operation outside its ROM, and that
no step writes a space. -/
namespace Sys2Proof

/-! ### Loop ROMs -/

/-- The cells of a list of entries that stands at index `i` and on read the entries back; past their end they read as
unlisted. -/
theorem Memory.read_ofBytesFrom (bs : List Byte) (i idx : Nat) :
    Memory.read (Memory.ofBytesFrom i bs) (i + idx) = bs[idx]?.getD Memory.unlisted := by
  induction bs generalizing i idx with
  | nil => rfl
  | cons v rest ih =>
    have hfirst : Memory.read (Memory.ofBytesFrom (i + 1) rest) i = Memory.unlisted :=
      Memory.read_of_lt (Nat.lt_succ_self i) (Memory.wfFrom_ofBytesFrom (i + 1) rest)
    have hrest (n : Nat) :
        Memory.read (Memory.ofBytesFrom (i + 1) rest) (i + (n + 1)) = rest[n]?.getD Memory.unlisted := by
      rw [← ih (i + 1) n, Nat.add_right_comm, Nat.add_assoc]
    by_cases hv : v = Memory.unlisted
    · rw [Memory.ofBytesFrom, if_pos hv]
      cases idx with
      | zero => exact hfirst.trans hv.symm
      | succ n => exact hrest n
    · rw [Memory.ofBytesFrom, if_neg hv]
      cases idx with
      | zero => simp [Memory.read]
      | succ n => simp [Memory.read, hrest]

namespace Machine

/-- Settles O50: the canonical form is `LoopRom.wf_ofBytes`, the bytes are read back by `Memory.read_ofBytesFrom`. -/
theorem loadedRomReadsItsBytes : Obligations.LoadedRomReadsItsBytes := by
  intro c k bytes hload
  have hlen : (c.loop k).len = bytes.length := by rw [hload]; rfl
  refine ⟨hlen, hload ▸ LoopRom.wf_ofBytes bytes, fun idx => ?_⟩
  by_cases hidx : idx < bytes.length
  · have hread := Memory.read_ofBytesFrom bytes 0 idx
    rw [Nat.zero_add, List.getElem?_eq_getElem hidx] at hread
    rw [loopRom_of_lt (hlen ▸ hidx), List.getElem?_eq_getElem hidx, hload]
    exact congrArg some hread
  · have hle : bytes.length ≤ idx := Nat.le_of_not_lt hidx
    rw [loopRom_of_le (hlen ▸ hle), List.getElem?_eq_none hle]

/-- Settles O25: the read has no meaning, and all four operations refuse it. -/
theorem loopOutsideRomIsRefused : Obligations.LoopOutsideRomIsRefused := by
  intro s k hout
  have hread : loopRom s.cfg k (loopIndex s.cfg.oversample s.pos) = none := loopRom_of_le hout
  have hstep : loopStep k s = .refused .loopIndexOutOfRange := by rw [loopStep, hread]
  fin_cases k <;> exact hstep

/-! ### No step writes a space -/

/-- A step keeps the configuration (R73). -/
theorem step_keeps_cfg {s t : State} (h : step s = .next t) : t.cfg = s.cfg := by
  obtain ⟨-, hexec⟩ := step_eq_next.mp h
  obtain ⟨hcfg, -, -⟩ := exec_keeps hexec
  rw [hcfg, fetch_keeps]

/-- Settles O49: the spaces and the frequency words are read off the configuration, which a step keeps. -/
theorem romContentsAreFixed : Obligations.RomContentsAreFixed := by
  intro s t h
  rw [step_keeps_cfg h]
  exact ⟨fun _ _ => rfl, fun _ => rfl, fun _ => rfl⟩

end Machine
end Sys2Proof
end

section
/-! The sine ROM (spec/20_memory.md R71) is the floor of the scaled sine over the reals: the table of the quarter wave
is near the sine, and no amplitude brings it so near an integer that the difference could change a rounding. -/
namespace Sys2Proof.Machine

/-! ### The quarter wave is near the sine

The turn by `π/256` is near a Gaussian integer over `2^32`. The powers of that integer are exact, and over the powers
of `2^32` they stay near the powers of the turn, whose imaginary parts are the sines. -/

/-- `2^32 * (cos (π/256) + sin (π/256) * I)`, both parts rounded down. -/
def sineTurn : GaussianInt := ⟨4294643892, 52705855⟩

/-- The real part of `sineTurn`, from the Taylor polynomial of degree 2. -/
theorem abs_re_sineTurn_sub_cos_le : |4294643892 / 2 ^ 32 - Real.cos (Real.pi / 256)| ≤ 2.5 / 10 ^ 9 := by
  have hlo := Real.pi_gt_d20
  have hhi := Real.pi_lt_d20
  have hangle : |Real.pi / 256| ≤ 0.0123 := by rw [abs_le]; constructor <;> linarith
  have hcos := Real.cos_bound (hangle.trans (by norm_num))
  have hfourth : |Real.pi / 256| ^ 4 ≤ 0.0123 ^ 4 := by gcongr
  have hsq : |Real.pi ^ 2 - 9.869604401| ≤ 1 / 10 ^ 8 := by rw [abs_le]; constructor <;> nlinarith
  rw [abs_le] at hcos hsq ⊢
  constructor <;> linarith

/-- The imaginary part of `sineTurn`, from the Taylor polynomial of degree 3. -/
theorem abs_im_sineTurn_sub_sin_le : |52705855 / 2 ^ 32 - Real.sin (Real.pi / 256)| ≤ 0.3 / 10 ^ 9 := by
  have hlo := Real.pi_gt_d20
  have hhi := Real.pi_lt_d20
  have hangle : |Real.pi / 256| ≤ 0.0123 := by rw [abs_le]; constructor <;> linarith
  have hsin := Real.sin_bound (hangle.trans (by norm_num))
  have hfifth : |Real.pi / 256| ^ 5 ≤ 0.0123 ^ 5 := by gcongr
  have hcubelo : (3.14159265358 : ℝ) ^ 3 ≤ Real.pi ^ 3 := by gcongr; linarith
  have hcubehi : Real.pi ^ 3 ≤ (3.14159265359 : ℝ) ^ 3 := by gcongr; linarith
  rw [abs_le] at hsin ⊢
  constructor <;> linarith

/-- The error of `sineTurn`. -/
theorem norm_sineTurn_sub_exp_le :
    ‖(sineTurn : ℂ) / (2 ^ 32 : ℝ) - Complex.exp ((Real.pi / 256 : ℝ) * Complex.I)‖ ≤ 1 / 2 ^ 28 := by
  grw [Complex.norm_le_abs_re_add_abs_im, Complex.sub_re, Complex.sub_im, Complex.exp_ofReal_mul_I_re,
    Complex.exp_ofReal_mul_I_im, Complex.div_ofReal_re, Complex.div_ofReal_im]
  have hre := abs_re_sineTurn_sub_cos_le
  have him := abs_im_sineTurn_sub_sin_le
  simp only [sineTurn, GaussianInt.re_toComplex, GaussianInt.im_toComplex, Int.cast_ofNat]
  linarith

/-- Rounded down, the turn stays in the unit disc. -/
theorem norm_sineTurn_le_one : ‖(sineTurn : ℂ) / (2 ^ 32 : ℝ)‖ ≤ 1 := by
  have hnorm : sineTurn.norm = 4294643892 ^ 2 + 52705855 ^ 2 := rfl
  rw [← sq_le_one_iff₀ (norm_nonneg _), ← Complex.normSq_eq_norm_sq, Complex.normSq_div, Complex.normSq_ofReal,
    ← GaussianInt.intCast_real_norm, hnorm]
  norm_num

/-- In the unit disc the error of a power is at most the exponent times the error of the base. -/
theorem norm_pow_sub_pow_le {w z : ℂ} (hw : ‖w‖ ≤ 1) (hz : ‖z‖ ≤ 1) (n : Nat) :
    ‖w ^ n - z ^ n‖ ≤ n * ‖w - z‖ := by
  induction n with
  | zero => simp
  | succ n ih =>
    calc ‖w ^ (n + 1) - z ^ (n + 1)‖ = ‖w * (w ^ n - z ^ n) + (w - z) * z ^ n‖ := by ring_nf
      _ ≤ ‖w‖ * ‖w ^ n - z ^ n‖ + ‖w - z‖ * ‖z‖ ^ n := by grw [norm_add_le, norm_mul, norm_mul, norm_pow]
      _ ≤ 1 * (n * ‖w - z‖) + ‖w - z‖ * 1 := by
        gcongr
        exact pow_le_one₀ (norm_nonneg z) hz
      _ = (n + 1 : Nat) * ‖w - z‖ := by push_cast; ring

/-- The imaginary parts of the powers of `sineTurn` are near the sines. -/
theorem im_sineTurn_pow_near_sine {n : Nat} (hn : n ≤ 64) :
    |(sineTurn ^ (2 * n)).im / (2 ^ 32) ^ (2 * n) - Real.sin (2 * Real.pi * n / 256)| ≤ 1 / 2 ^ 21 := by
  have hpow : ‖((sineTurn : ℂ) / (2 ^ 32 : ℝ)) ^ (2 * n) -
      Complex.exp ((Real.pi / 256 : ℝ) * Complex.I) ^ (2 * n)‖ ≤ 1 / 2 ^ 21 := by
    grw [norm_pow_sub_pow_le norm_sineTurn_le_one (Complex.norm_exp_ofReal_mul_I _).le, norm_sineTurn_sub_exp_le, hn]
    norm_num
  have hangle : ((2 * n : Nat) : ℂ) * ((Real.pi / 256 : ℝ) * Complex.I) =
      (2 * Real.pi * n / 256 : ℝ) * Complex.I := by
    push_cast
    ring
  rw [← Complex.exp_nat_mul, hangle, div_pow, ← map_pow, ← Complex.ofReal_pow] at hpow
  have him := (Complex.abs_im_le_norm _).trans hpow
  rwa [Complex.sub_im, Complex.exp_ofReal_mul_I_im, Complex.div_ofReal_im, ← GaussianInt.intCast_im] at him

/-- The table of the quarter wave against the powers of `sineTurn`, in integers. -/
theorem sineHalf_near_im_sineTurn_pow :
    ∀ n < 65, |2 ^ 24 * (sineTurn ^ (2 * n)).im - sineHalf n * (2 ^ 32) ^ (2 * n)| ≤ 2 * (2 ^ 32) ^ (2 * n) := by
  decide

/-- An entry of the quarter wave is within 10 of `2^24` times its sine. -/
theorem sineHalf_near_sine {n : Nat} (hn : n ≤ 64) :
    |2 ^ 24 * Real.sin (2 * Real.pi * n / 256) - sineHalf n| ≤ 10 := by
  have hscale : (0 : ℝ) < (2 ^ 32) ^ (2 * n) := by positivity
  have htable : |2 ^ 24 * ((sineTurn ^ (2 * n)).im : ℝ) - sineHalf n * (2 ^ 32) ^ (2 * n)| ≤
      2 * (2 ^ 32) ^ (2 * n) := by
    exact_mod_cast sineHalf_near_im_sineTurn_pow n (by omega)
  have hentry : |2 ^ 24 * ((sineTurn ^ (2 * n)).im / (2 ^ 32) ^ (2 * n) : ℝ) - sineHalf n| ≤ 2 := by
    rwa [← div_le_iff₀ hscale, ← abs_of_pos hscale, ← abs_div, abs_of_pos hscale, sub_div, mul_div_assoc,
      mul_div_cancel_right₀ _ hscale.ne'] at htable
  have hsine := im_sineTurn_pow_near_sine hn
  rw [abs_le] at hentry hsine ⊢
  constructor <;> linarith

/-! ### Rounding the scaled quarter wave -/

/-- Under the amplitude `ampl` the entry `q` over `2^24` gives the same integers as `x`, rounded down and rounded up. -/
def RoundsAlike (ampl q : Nat) (x : ℝ) : Prop :=
  ((ampl * q / 2 ^ 24 : Nat) : Int) = ⌊(ampl : ℝ) * x⌋ ∧
  (((ampl * q + (2 ^ 24 - 1)) / 2 ^ 24 : Nat) : Int) = ⌈(ampl : ℝ) * x⌉

/-- Under no amplitude from 1 to 127 is a multiple of `2^24` reached by moving the entry `q` by up to 10. -/
def clearsMultiples (q : Nat) : Bool :=
  (List.range' 1 127).all fun ampl => Nat.blt (20 * ampl) (ampl * (q + 10) % 2 ^ 24)

/-- Such an entry rounds as any number it is near. -/
theorem roundsAlike_of_clearsMultiples {ampl q : Nat} {x : ℝ} (hpos : 1 ≤ ampl) (hle : ampl ≤ 127)
    (hclear : clearsMultiples q = true) (hnear : |2 ^ 24 * x - q| ≤ 10) : RoundsAlike ampl q x := by
  have hmargin : 20 * ampl < ampl * (q + 10) % 2 ^ 24 :=
    Nat.blt_eq.mp (List.all_eq_true.mp hclear ampl (List.mem_range'_1.mpr ⟨hpos, by omega⟩))
  have hbelow : ampl * (q + 10) % 2 ^ 24 < 2 ^ 24 := Nat.mod_lt _ (by norm_num)
  have hdiv := Nat.div_add_mod (ampl * (q + 10)) (2 ^ 24)
  generalize ampl * (q + 10) / 2 ^ 24 = m, ampl * (q + 10) % 2 ^ 24 = r at hmargin hbelow hdiv
  rw [Nat.mul_add] at hdiv
  have hdown : ampl * q / 2 ^ 24 = m := by omega
  have hup : (ampl * q + (2 ^ 24 - 1)) / 2 ^ 24 = m + 1 := by omega
  have hprod : |(ampl : ℝ) * (2 ^ 24 * x - q)| ≤ (ampl : ℝ) * 10 := by
    rw [abs_mul, Nat.abs_cast]
    gcongr
  have hdivR : (2 ^ 24 : ℝ) * m + r = ampl * q + ampl * 10 := by exact_mod_cast hdiv
  have hmarginR : (20 : ℝ) * ampl < r := by exact_mod_cast hmargin
  have hbelowR : (r : ℝ) < 2 ^ 24 := by exact_mod_cast hbelow
  rw [abs_le] at hprod
  rw [RoundsAlike, hdown, hup, eq_comm, Int.floor_eq_iff, eq_comm, Int.ceil_eq_iff]
  push_cast
  refine ⟨⟨?_, ?_⟩, ?_, ?_⟩ <;> linarith

/-- The entries between the two ends of the quarter wave, over all amplitudes. -/
theorem clearsMultiples_sineHalf : ∀ n < 64, 0 < n → clearsMultiples (sineHalf n) = true := by
  decide

@[simp] theorem sineHalf_zero : sineHalf 0 = 0 := rfl
@[simp] theorem sineHalf_top : sineHalf 64 = 2 ^ 24 := rfl

/-- The quarter wave rounds as the sine; at its two ends it is exact. -/
theorem roundsAlike_sineHalf_of_le {ampl n : Nat} (hpos : 1 ≤ ampl) (hle : ampl ≤ 127) (hn : n ≤ 64) :
    RoundsAlike ampl (sineHalf n) (Real.sin (2 * Real.pi * n / 256)) := by
  obtain rfl | rfl | ⟨hn0, hn64⟩ : n = 0 ∨ n = 64 ∨ 0 < n ∧ n < 64 := by omega
  · simp [RoundsAlike]
  · have hsin : Real.sin (2 * Real.pi * (64 : Nat) / 256) = 1 := by
      rw [← Real.sin_pi_div_two]
      push_cast
      ring_nf
    rw [RoundsAlike, sineHalf_top, hsin, mul_one, Int.floor_natCast, Int.ceil_natCast]
    omega
  · exact roundsAlike_of_clearsMultiples hpos hle (clearsMultiples_sineHalf n hn64 hn0) (sineHalf_near_sine hn)

/-- The half wave falls as it rose. -/
theorem sineHalf_reflect {n : Nat} (hn : n ≤ 128) : sineHalf (128 - n) = sineHalf n := by
  unfold sineHalf
  congr 1
  split <;> split <;> omega

/-- The half wave rounds as the sine. -/
theorem roundsAlike_sineHalf {ampl r : Nat} (hpos : 1 ≤ ampl) (hle : ampl ≤ 127) (hr : r < 128) :
    RoundsAlike ampl (sineHalf r) (Real.sin (2 * Real.pi * r / 256)) := by
  obtain hrises | hfalls := Nat.le_total r 64
  · exact roundsAlike_sineHalf_of_le hpos hle hrises
  · have hsin : Real.sin (2 * Real.pi * r / 256) = Real.sin (2 * Real.pi * (128 - r : Nat) / 256) := by
      rw [← Real.sin_pi_sub, Nat.cast_sub hr.le]
      push_cast
      ring_nf
    rw [hsin, ← sineHalf_reflect hr.le]
    exact roundsAlike_sineHalf_of_le hpos hle (by omega)

/-! ### The entries of the sine ROM -/

/-- The half wave is at most `2^24`, the scaled 1. -/
theorem sineHalf_le : ∀ r < 128, sineHalf r ≤ 2 ^ 24 := by
  decide

/-- An entry of the first half wave stands above 128, rounded down. -/
theorem sineRom_toNat_of_lt {ampl : Nat} {i : Byte} (hle : ampl ≤ 127) (hi : i.toNat < 128) :
    (sineRom ampl i).toNat = 128 + ampl * sineHalf i.toNat / 2 ^ 24 := by
  have hprod : ampl * sineHalf i.toNat ≤ ampl * 2 ^ 24 := Nat.mul_le_mul_left _ (sineHalf_le _ hi)
  simp only [sineRom, Nat.mod_eq_of_lt hi, if_pos hi, BitVec.toNat_ofNat]
  omega

/-- An entry of the second half wave stands below 128 by at most the amplitude, rounded up. -/
theorem sineRom_toNat_of_le {ampl : Nat} {i : Byte} (hle : ampl ≤ 127) (hi : 128 ≤ i.toNat) :
    (sineRom ampl i).toNat = 128 - (ampl * sineHalf (i.toNat - 128) + (2 ^ 24 - 1)) / 2 ^ 24 ∧
    (ampl * sineHalf (i.toNat - 128) + (2 ^ 24 - 1)) / 2 ^ 24 ≤ ampl := by
  have hlt := i.isLt
  have hprod : ampl * sineHalf (i.toNat - 128) ≤ ampl * 2 ^ 24 := Nat.mul_le_mul_left _ (sineHalf_le _ (by omega))
  have hmod : i.toNat % 128 = i.toNat - 128 := by omega
  simp only [sineRom, hmod, if_neg (Nat.not_lt.mpr hi), BitVec.toNat_ofNat]
  omega

/-- No entry is 0 (R71). -/
theorem one_le_sineRom {ampl : Nat} (hle : ampl ≤ 127) (i : Byte) : 1 ≤ (sineRom ampl i).toNat := by
  obtain hi | hi := Nat.lt_or_ge i.toNat 128
  · have hentry := sineRom_toNat_of_lt hle hi
    omega
  · obtain ⟨hentry, hbound⟩ := sineRom_toNat_of_le hle hi
    omega

/-- An entry is the floor of the scaled sine around 128; on the second half wave the sine is negative, and rounding its
amount up is rounding the entry down. -/
theorem sineRom_eq_floor {ampl : Nat} (hpos : 1 ≤ ampl) (hle : ampl ≤ 127) (i : Byte) :
    ((sineRom ampl i).toNat : Int) =
      ⌊(128 : ℝ) + (ampl : ℝ) * Real.sin (2 * Real.pi * (i.toNat : ℝ) / 256)⌋ := by
  rw [show (128 : ℝ) = (128 : Nat) from rfl, Int.floor_natCast_add]
  obtain hi | hi := Nat.lt_or_ge i.toNat 128
  · obtain ⟨hfloor, -⟩ := roundsAlike_sineHalf hpos hle hi
    have hentry := sineRom_toNat_of_lt hle hi
    omega
  · have hlt := i.isLt
    obtain ⟨-, hceil⟩ := roundsAlike_sineHalf hpos hle (show i.toNat - 128 < 128 by omega)
    obtain ⟨hentry, hbound⟩ := sineRom_toNat_of_le hle hi
    have hsin : Real.sin (2 * Real.pi * i.toNat / 256) =
        -Real.sin (2 * Real.pi * (i.toNat - 128 : Nat) / 256) := by
      rw [eq_neg_iff_add_eq_zero, ← neg_eq_iff_add_eq_zero, ← Real.sin_sub_pi, Nat.cast_sub hi]
      push_cast
      ring_nf
    rw [hsin, mul_neg, Int.floor_neg, ← hceil]
    omega

/-- Settles O16: the floor is `sineRom_eq_floor`; the four exact entries stand at the two ends of the quarter wave. -/
theorem sineRomIsFloorOfSine : Obligations.SineRomIsFloorOfSine := by
  intro ampl hpos hle
  have hfirst : ∀ i : Byte, i.toNat < 128 → (sineRom ampl i).toNat = 128 + ampl * sineHalf i.toNat / 2 ^ 24 :=
    fun _ => sineRom_toNat_of_lt hle
  have hsecond : ∀ i : Byte, 128 ≤ i.toNat →
      (sineRom ampl i).toNat = 128 - (ampl * sineHalf (i.toNat - 128) + (2 ^ 24 - 1)) / 2 ^ 24 :=
    fun _ hi => (sineRom_toNat_of_le hle hi).1
  refine ⟨fun i => ⟨sineRom_eq_floor hpos hle i, one_le_sineRom hle i⟩, ?_, ?_, ?_, ?_⟩
  · rw [hfirst 0 (by decide)]
    simp
  · rw [hfirst 64 (by decide), show (64 : Byte).toNat = 64 from rfl, sineHalf_top]
    omega
  · rw [hsecond 128 (by decide)]
    simp
  · rw [hsecond 192 (by decide), show (192 : Byte).toNat - 128 = 64 from rfl, sineHalf_top]
    omega

end Sys2Proof.Machine
end

section
/-! The request vector and the select bus (spec/30_encoding.md R100 to R107), and the pseudo-event NEXT (R110): two
accepted runs of samples, each followed by a poll. -/
namespace Sys2Proof

/-! ### The request vector -/

/-- Bit 3 is set in the words from 8 on. -/
theorem getLsbD_three_iff : ∀ ev : BitVec 4, ev.getLsbD 3 = true ↔ 8 ≤ ev.toNat := by decide

/-- RESET is decoded alone (R106). -/
theorem decodeEv_of_reset {ev : BitVec 4} (h : ev.getLsbD 3 = true) (btn : Bool) (adc : BitVec 12) :
    decodeEv ev btn adc = [.reset] := if_pos h

/-- A request that is neither RESET nor empty is decoded bit by bit (R106). -/
theorem decodeEv_of_events {ev : BitVec 4} (h3 : ev.getLsbD 3 = false) (hne : ev ≠ 0) (btn : Bool)
    (adc : BitVec 12) :
    decodeEv ev btn adc =
      (if ev.getLsbD 2 then [.audioTick] else []) ++ (if ev.getLsbD 1 then [.serviceTick btn adc] else []) ++
        (if ev.getLsbD 0 then [.fgPoll] else []) := by
  rw [decodeEv, if_neg (Bool.eq_false_iff.mp h3), if_neg hne]

/-- Of the operations of a request that is neither RESET nor empty, each is there just where its bit is set (R106). -/
theorem mem_decodeEv_of_events {ev : BitVec 4} (h3 : ev.getLsbD 3 = false) (hne : ev ≠ 0) {btn : Bool}
    {adc : BitVec 12} {i : Instr} :
    i ∈ decodeEv ev btn adc ↔
      (ev.getLsbD 2 = true ∧ i = .audioTick) ∨ (ev.getLsbD 1 = true ∧ i = .serviceTick btn adc) ∨
        (ev.getLsbD 0 = true ∧ i = .fgPoll) := by
  simp only [decodeEv_of_events h3 hne, List.mem_append, List.mem_ite_nil_right, List.mem_singleton, or_assoc]

/-- Settles O3: a request that decodes to IDLE has neither bit 3 nor another bit set. -/
theorem idleChangesNothing : Obligations.IdleChangesNothing := by
  refine ⟨fun s => rfl, fun ev btn adc => ⟨fun hidle => ?_, fun h => by rw [h]; rfl⟩⟩
  by_contra hne
  cases h3 : ev.getLsbD 3 with
  | true => simp [decodeEv_of_reset h3] at hidle
  | false =>
    have hmem : Instr.idle ∈ decodeEv ev btn adc := by simp [hidle]
    simp [mem_decodeEv_of_events h3 hne] at hmem

/-- Settles O39: the order is that of the three parts a request is decoded into. -/
theorem evDecodesInPriorityOrder : Obligations.EvDecodesInPriorityOrder := by
  intro ev btn adc
  refine ⟨fun h => decodeEv_of_reset ((getLsbD_three_iff ev).mpr h) btn adc, fun hpos hlt => ?_⟩
  have h3 : ev.getLsbD 3 = false := Bool.eq_false_iff.mpr fun h => by
    have := (getLsbD_three_iff ev).mp h
    omega
  have hne : ev ≠ 0 := by
    rintro rfl
    simp at hpos
  have hpart : ∀ (c : Bool) (i : Instr), (if c then [i] else []).Sublist [i] := by
    intro c i
    cases c <;> simp
  refine ⟨?_, ?_, ?_, ?_⟩
  · rw [decodeEv_of_events h3 hne]
    exact ((hpart _ _).append (hpart _ _)).append (hpart _ _)
  · simp [mem_decodeEv_of_events h3 hne]
  · simp [mem_decodeEv_of_events h3 hne]
  · simp [mem_decodeEv_of_events h3 hne]

/-! ### The select bus, and every encoding -/

/-- Settles O40: the table is read off all sixteen words of the bus, the last clause off the eight modes. -/
theorem mselSelectsOneGenerator : Obligations.MselSelectsOneGenerator := by
  refine ⟨by decide, fun w => rfl, fun mode => ⟨?_, ?_⟩⟩
  · exact BitVec.toNat_setWidth_of_le (by decide)
  · rw [Machine.decodeMsel_mselOf]
    split <;> decide

/-- Settles O41: the round trip the runs of encoded operations rest on. -/
theorem decodeOfEncode : Obligations.DecodeOfEncode := decode_encode

/-- Settles O42: most of the words are encodings; `0111` requests three operations, and `1010` is not the word SILENCE
is encoded as. -/
theorem specWordsDecode : Obligations.SpecWordsDecode :=
  ⟨decode_encode .reset, rfl, decode_encode (.serviceTick true 0xFFF), decode_encode .loop3, decode_encode .tone1,
    decode_encode .pnoise, rfl, decode_encode (.deadlineCheck 0x80000003)⟩

end Sys2Proof

namespace Sys2Proof.Machine

/-! ### A run of samples that is accepted -/

/-- A sample of the other level before the N-th is counted (R250, R252). -/
theorem exec_serviceTick_count {b : Bool} {s : State} (adc : BitVec 12) (hb : b ≠ s.dbLevel)
    (hN : s.dbCount.toNat + 1 < s.cfg.debounceN) :
    exec (.serviceTick b adc) s =
      .next { s with dbCount := s.dbCount + 1#8, vol := volumeSample adc, tick := s.tick + 1 } := by
  simp only [exec, execServiceTick, debounceStep_count hb hN]
  rfl

/-- The N-th sample of the other level is accepted and its edge flagged (R250, R252). -/
theorem exec_serviceTick_accept {b : Bool} {s : State} (adc : BitVec 12) (hb : b ≠ s.dbLevel)
    (hN : s.cfg.debounceN ≤ s.dbCount.toNat + 1) :
    exec (.serviceTick b adc) s =
      .next { s with dbLevel := b, dbCount := 0, rise := s.rise || b, fall := s.fall || !b,
                     vol := volumeSample adc, tick := s.tick + 1 } := by
  simp only [exec, execServiceTick, debounceStep_accept hb hN]
  cases b <;> simp [postEdge, volumeStep, tickStep]

/-- The samples of the other level that bring the count to N are accepted at the last of them (R253 a). -/
theorem execAll_serviceOps_accept {b : Bool} (samples : List (Bool × BitVec 12)) :
    ∀ {s : State}, samples ≠ [] → (∀ x ∈ samples, x.1 = b) → b ≠ s.dbLevel → s.cfg.debounceN ≤ 255 →
      s.dbCount.toNat + samples.length = s.cfg.debounceN →
      ∃ vol, execAll (serviceOps samples) s =
        .next { s with dbLevel := b, dbCount := 0, rise := s.rise || b, fall := s.fall || !b, vol := vol,
                       tick := s.tick + BitVec.ofNat 32 samples.length } := by
  induction samples with
  | nil => exact fun hne => absurd rfl hne
  | cons x rest ih =>
    obtain ⟨level, adc⟩ := x
    intro s _ hlevel hb hmax hcount
    obtain ⟨rfl, hrest⟩ := List.forall_mem_cons.mp hlevel
    cases rest with
    | nil =>
      have hN : s.cfg.debounceN ≤ s.dbCount.toNat + 1 := hcount.ge
      refine ⟨volumeSample adc, ?_⟩
      simp [serviceOps, execAll, exec_serviceTick_accept adc hb hN]
    | cons y rest =>
      rw [List.length_cons, List.length_cons] at hcount
      have hN : s.dbCount.toNat + 1 < s.cfg.debounceN := by omega
      have hsucc : (s.dbCount + 1#8).toNat = s.dbCount.toNat + 1 := by
        rw [BitVec.toNat_add_of_lt (by simp; omega)]
        rfl
      obtain ⟨vol, hrun⟩ := ih
        (s := { s with dbCount := s.dbCount + 1#8, vol := volumeSample adc, tick := s.tick + 1 })
        (List.cons_ne_nil _ _) hrest hb hmax (by simp only [hsucc, List.length_cons]; omega)
      refine ⟨vol, ?_⟩
      change andThen (exec (.serviceTick level adc) s) (execAll (serviceOps (y :: rest))) = _
      rw [exec_serviceTick_count adc hb hN, andThen_next, hrun]
      simp [BitVec.ofNat_add, BitVec.add_assoc, BitVec.add_comm]

/-! ### The pseudo-event NEXT -/

/-- FALL consumed, whatever it held (R211). -/
theorem pollFall_eq (s : State) : pollFall s = { s with fall := false } := by
  rw [pollFall_frame, pollFall_fall]

/-- A poll that finds RISE advances MODE and asks for the pending update (R211). -/
theorem exec_fgPoll_of_rise {s : State} (h : s.rise = true) :
    exec .fgPoll s = .next { s with rise := false, fall := false, mode := s.mode + 1, pending := true } := by
  simp only [exec, execFgPoll, pollFall_eq, pollRise, if_pos h]
  rfl

/-- A poll that finds RISE clear does no more than consume FALL (R211). -/
theorem exec_fgPoll_of_not_rise {s : State} (h : s.rise = false) :
    exec .fgPoll s = .next { s with fall := false } := by
  simp only [exec, execFgPoll, pollFall_eq, pollRise, if_neg (Bool.eq_false_iff.mp h)]

/-- Equal samples to come request SERVICE_TICKs with those samples. -/
theorem flatMap_ops_replicate_serviceInput (n : Nat) (b : Bool) (adc : Nat) :
    (List.replicate n (serviceInput b adc)).flatMap Input.ops =
      serviceOps (List.replicate n (b, BitVec.ofNat 12 adc)) := by
  induction n with
  | zero => rfl
  | succ n ih =>
    rw [List.replicate_succ, List.flatMap_cons, ih]
    rfl

/-- The operations of NEXT: a press and a poll, a release and a poll (R110). -/
theorem flatMap_ops_next (n adc : Nat) :
    ((Event.next adc).inputs n).flatMap Input.ops =
      (serviceOps (List.replicate n (true, BitVec.ofNat 12 adc)) ++ [.fgPoll]) ++
        (serviceOps (List.replicate n (false, BitVec.ofNat 12 adc)) ++ [.fgPoll]) := by
  have hpoll : [Input.request 0b0001 false 0].flatMap Input.ops = [.fgPoll] := rfl
  rw [Event.inputs]
  simp only [List.flatMap_append, flatMap_ops_replicate_serviceInput, hpoll, List.append_assoc]

/-- N equal samples of the other level, from a count of 0, are accepted (R110, R253 a). -/
theorem execAll_serviceOps_replicate {b : Bool} {n : Nat} {s : State} (adc : BitVec 12) (hb : b ≠ s.dbLevel)
    (hn : s.cfg.debounceN = n) (hpos : 0 < n) (hmax : n ≤ 255) (hcount : s.dbCount = 0) :
    ∃ vol, execAll (serviceOps (List.replicate n (b, adc))) s =
      .next { s with dbLevel := b, dbCount := 0, rise := s.rise || b, fall := s.fall || !b, vol := vol,
                     tick := s.tick + BitVec.ofNat 32 n } := by
  subst hn
  have haccept := execAll_serviceOps_accept (List.replicate s.cfg.debounceN (b, adc)) (s := s)
    (by simp [hpos.ne']) (fun x hx => by rw [List.eq_of_mem_replicate hx]) hb hmax (by simp [hcount])
  rwa [List.length_replicate] at haccept

/-- The first half of NEXT: the press is accepted, and the poll finds its RISE (R110). -/
theorem execAll_press_poll {n : Nat} {s : State} (adc : BitVec 12) (hlevel : s.dbLevel = false)
    (hn : s.cfg.debounceN = n) (hpos : 0 < n) (hmax : n ≤ 255) (hcount : s.dbCount = 0) :
    ∃ vol, execAll (serviceOps (List.replicate n (true, adc)) ++ [.fgPoll]) s =
      .next { s with mode := s.mode + 1, pending := true, dbLevel := true, dbCount := 0, rise := false, fall := false,
                     vol := vol, tick := s.tick + BitVec.ofNat 32 n } := by
  obtain ⟨vol, hrun⟩ := execAll_serviceOps_replicate adc (b := true) (by simp [hlevel]) hn hpos hmax hcount
  refine ⟨vol, ?_⟩
  rw [execAll_append, hrun, andThen_next, execAll, exec_fgPoll_of_rise (Bool.or_true _)]
  rfl

/-- The second half of NEXT: the release is accepted, and the poll finds its FALL alone (R110). -/
theorem execAll_release_poll {n : Nat} {s : State} (adc : BitVec 12) (hlevel : s.dbLevel = true)
    (hrise : s.rise = false) (hn : s.cfg.debounceN = n) (hpos : 0 < n) (hmax : n ≤ 255) (hcount : s.dbCount = 0) :
    ∃ vol, execAll (serviceOps (List.replicate n (false, adc)) ++ [.fgPoll]) s =
      .next { s with dbLevel := false, dbCount := 0, rise := false, fall := false, vol := vol,
                     tick := s.tick + BitVec.ofNat 32 n } := by
  obtain ⟨vol, hrun⟩ := execAll_serviceOps_replicate adc (b := false) (by simp [hlevel]) hn hpos hmax hcount
  refine ⟨vol, ?_⟩
  rw [execAll_append, hrun, andThen_next, hrise, execAll, exec_fgPoll_of_not_rise rfl]
  rfl

/-- NEXT from a settled filter, run whole (R110). -/
theorem execAll_next {s : State} (adc : Nat) (hpos : 0 < s.cfg.debounceN) (hmax : s.cfg.debounceN ≤ 255)
    (hlevel : s.dbLevel = false) (hcount : s.dbCount = 0) :
    ∃ vol, execAll (((Event.next adc).inputs s.cfg.debounceN).flatMap Input.ops) s =
      .next { s with mode := s.mode + 1, pending := true, dbLevel := false, dbCount := 0, rise := false, fall := false,
                     vol := vol,
                     tick := s.tick + BitVec.ofNat 32 s.cfg.debounceN + BitVec.ofNat 32 s.cfg.debounceN } := by
  obtain ⟨_, hpress⟩ := execAll_press_poll (BitVec.ofNat 12 adc) hlevel rfl hpos hmax hcount
  rw [flatMap_ops_next, execAll_append, hpress, andThen_next]
  exact execAll_release_poll (BitVec.ofNat 12 adc) rfl rfl rfl hpos hmax rfl

/-- Settles O12: the run of NEXT's inputs is the sequence of its operations (`runsTheRequestedOperations`), and
`execAll_next` says what that leaves; RISE may hold anything before it. -/
theorem nextAdvancesMode : Obligations.NextAdvancesMode := by
  intro s adc rest hv hlevel hcount _ htodo htrace
  obtain ⟨-, -, -, -, ⟨hpos, hmax⟩, -⟩ := (valid_iff s.cfg).mp hv
  have hlen : (((Event.next adc).inputs s.cfg.debounceN).flatMap Input.ops).length = 2 * s.cfg.debounceN + 2 := by
    simp only [flatMap_ops_next, serviceOps, List.length_append, List.length_map, List.length_replicate,
      List.length_singleton]
    omega
  obtain ⟨vol, hnext⟩ := execAll_next (s := { s with trace := rest }) adc hpos hmax hlevel hcount
  have hrun := runsTheRequestedOperations _ rest s hv htodo htrace
  rw [hlen] at hrun
  refine ⟨_, hrun.trans hnext, ?_, rfl, rfl, rfl, rfl, rfl, ?_, htodo, rfl, rfl, rfl⟩
  · exact BitVec.toNat_add s.mode 1
  · simp only [BitVec.toNat_add, BitVec.toNat_ofNat]
    omega

end Sys2Proof.Machine
end

section
/-! The tone synthesizer (spec/40_tone_synth.md R131 to R135): TONE0 and TONE1 are one datapath, so a sequence of them
is an iterate of `toneStep`; and the frequency words it advances by. -/
namespace Sys2Proof.Machine

/-! ### One tone operation -/

/-- Both tone operations step the one datapath (R130). -/
theorem exec_of_tone {i : Instr} (h : i = .tone0 ∨ i = .tone1) (s : State) : exec i s = .next (toneStep s) := by
  obtain rfl | rfl := h <;> rfl

/-- A tone operation changes PHASE and the raw sample, and nothing else (R132). -/
theorem toneStep_frame (s : State) :
    toneStep s = { s with raw := (toneStep s).raw, phase := (toneStep s).phase } := rfl

/-- The top byte of the phase is the phase shifted right by 24 (R132). -/
theorem sineIndex_eq_ofNat (phase : Word) : sineIndex phase = BitVec.ofNat 8 (phase.toNat / 2 ^ 24) := by
  apply BitVec.eq_of_toNat_eq
  simp [sineIndex, Nat.shiftRight_eq_div_pow]

/-- The sine wave begins at mid-scale under every amplitude (R71). -/
@[simp] theorem sineRom_zero (ampl : Nat) : sineRom ampl 0 = 128 := by
  simp [sineRom]

/-- Settles O14: what `toneStep` leaves in each field. -/
theorem toneReturnsSampleThenAdvances : Obligations.ToneReturnsSampleThenAdvances := by
  intro s i hi
  refine ⟨toneStep s, exec_of_tone hi s, toneStep_frame s, ?_, BitVec.toNat_add s.phase s.inc, fun hphase => ?_⟩
  · rw [toneStep_raw, sineIndex_eq_ofNat]
  · rw [toneStep_raw, hphase]
    exact sineRom_zero _

/-! ### A sequence of tone operations -/

/-- Any mix of the two tone operations steps the datapath once each. -/
theorem execAll_tones {ops : List Instr} (h : ∀ i ∈ ops, i = .tone0 ∨ i = .tone1) (s : State) :
    execAll ops s = .next (toneStep^[ops.length] s) := by
  induction ops generalizing s with
  | nil => rfl
  | cons i ops ih =>
    obtain ⟨hi, hops⟩ := List.forall_mem_cons.mp h
    rw [execAll, exec_of_tone hi, andThen_next, ih hops]
    rfl

/-- `n` tone operations add `n` times INC to PHASE and change nothing else but the raw sample (R135). -/
theorem iterate_toneStep_frame (n : Nat) (s : State) :
    toneStep^[n] s =
      { s with raw := (toneStep^[n] s).raw, phase := s.phase + BitVec.ofNat 32 n * s.inc } := by
  induction n with
  | zero => simp
  | succ n ih =>
    rw [Function.iterate_succ_apply', toneStep_frame, toneStep_phase, ih]
    simp [BitVec.ofNat_add, BitVec.add_mul, BitVec.add_assoc]

/-- The phase after `n` tone operations as a number (R135). -/
theorem iterate_toneStep_phase_toNat (n : Nat) (s : State) :
    (toneStep^[n] s).phase.toNat = (s.phase.toNat + n * s.inc.toNat) % 2 ^ 32 := by
  rw [iterate_toneStep_frame]
  simp

/-- Settles O15: the last operation reads the phase that the ones before it leave. -/
theorem tonePhaseClosedForm : Obligations.TonePhaseClosedForm := by
  intro s before i h
  have htones : ∀ j ∈ before ++ [i], j = .tone0 ∨ j = .tone1 := fun j hj => h j (by simpa [or_comm] using hj)
  refine ⟨toneStep^[before.length + 1] s, ?_, iterate_toneStep_phase_toNat _ s, ?_⟩
  · rw [execAll_tones htones, List.length_append, List.length_singleton]
  · have hcfg : (toneStep^[before.length] s).cfg = s.cfg := by rw [iterate_toneStep_frame]
    rw [Function.iterate_succ_apply', toneStep_raw, hcfg, sineIndex_eq_ofNat, iterate_toneStep_phase_toNat]

/-! ### The frequency words -/

/-- The word of a tone below the sample rate is the integer quotient, and not reduced (R131). -/
theorem freqWord_toNat {c : Config} {j : Nat} (h : c.toneFreq j < c.sampleRate) :
    (c.freqWord j).toNat = 2 ^ 32 * c.toneFreq j / c.sampleRate := by
  have hfits : 2 ^ 32 * c.toneFreq j / c.sampleRate < 2 ^ 32 :=
    Nat.div_lt_of_lt_mul (by omega)
  rw [Config.freqWord, BitVec.toNat_ofNat, Nat.mod_eq_of_lt hfits]

/-- Settles O17: the integer quotient is the floor of the rational one. -/
theorem frequencyWordIsExactFloor : Obligations.FrequencyWordIsExactFloor := by
  refine ⟨fun c j h => ?_, fun c hrate => ?_⟩
  · rw [freqWord_toNat h]
    exact_mod_cast (Rat.floor_natCast_div_natCast (2 ^ 32 * c.toneFreq j) c.sampleRate).symm
  · have hfreq : c.toneFreq 0 = 440 := rfl
    rw [freqWord_toNat (by omega), hfreq, hrate]
    norm_num

end Sys2Proof.Machine
end

section
/-! The noise generators (spec/41_noise.md R151 to R159): the shift register as a linear map of 32-bit words, the
eight steps of a white byte, and the schedule by which the pink bands are refreshed. -/
namespace Sys2Proof.Machine

/-! ### The parity of a word -/

/-- The parity of the lowest `n` bits is that of how many of them read 1 (R13). -/
theorem parityBelow_iff_countP (v : Word) (n : Nat) :
    parityBelow v n = true ↔ ((List.range n).countP fun k => v.getLsbD k) % 2 = 1 := by
  induction n with
  | zero => simp [parityBelow]
  | succ n ih =>
    rw [List.range_succ, List.countP_append, List.countP_singleton, parityBelow]
    cases hbit : v.getLsbD n with
    | true =>
      rw [Bool.xor_true, Bool.not_eq_true', Bool.eq_false_iff, ne_eq, ih, if_pos rfl]
      omega
    | false =>
      rw [Bool.xor_false, ih]
      simp

/-- The parity of an XOR is the XOR of the parities (R13). -/
theorem parityBelow_xor (v w : Word) (n : Nat) :
    parityBelow (v ^^^ w) n = (parityBelow v n).xor (parityBelow w n) := by
  induction n with
  | zero => rfl
  | succ n ih => simp only [parityBelow, ih, BitVec.getLsbD_xor, Bool.xor_assoc, Bool.xor_left_comm]

/-- The parity of the spec's taps is the XOR of the four tap bits (R151). -/
theorem parity_and_specTaps (l : Word) :
    parity (l &&& 0x80200003) = (((l.getLsbD 31).xor (l.getLsbD 21)).xor (l.getLsbD 1)).xor (l.getLsbD 0) := by
  rw [Bool.xor_comm _ (l.getLsbD 0), Bool.xor_comm _ (l.getLsbD 1), Bool.xor_comm (l.getLsbD 31)]
  simp [parity, parityBelow]

/-! ### One step of the shift register -/

/-- Bit 0 after a step is the parity of the taps (R151). -/
@[simp] theorem getLsbD_zero_lfsrStep (taps l : Word) : (lfsrStep taps l).getLsbD 0 = parity (l &&& taps) := by
  simp [lfsrStep]

/-- Every other bit after a step is the bit below it (R151). -/
theorem getLsbD_succ_lfsrStep (taps l : Word) {n : Nat} (hn : n < 31) :
    (lfsrStep taps l).getLsbD (n + 1) = l.getLsbD n := by
  simp [lfsrStep, hn]

/-- A step as arithmetic: twice the register and the parity of the taps, modulo 2^32 (R151). -/
theorem lfsrStep_toNat (taps l : Word) :
    (lfsrStep taps l).toNat = (2 * l.toNat + (parity (l &&& taps)).toNat) % 2 ^ 32 := by
  have hfb := Bool.toNat_lt (parity (l &&& taps))
  rw [lfsrStep, BitVec.toNat_concat, BitVec.toNat_setWidth]
  omega

/-- Settles O18: the bits of a step, and its value. -/
theorem lfsrStepShiftsInParity : Obligations.LfsrStepShiftsInParity := by
  refine ⟨fun taps l => ⟨fun n hn => getLsbD_succ_lfsrStep taps l hn, ?_⟩, fun l => ?_⟩
  · rw [getLsbD_zero_lfsrStep, parity, parityBelow_iff_countP]
    simp only [BitVec.getLsbD_and]
  · rw [lfsrStep_toNat, parity_and_specTaps]

/-! ### The step as a linear bijection -/

/-- A step is linear over XOR, since the shift, the mask and the parity are (R151). -/
theorem lfsrStep_xor (taps v w : Word) : lfsrStep taps (v ^^^ w) = lfsrStep taps v ^^^ lfsrStep taps w := by
  have hmask : (v ^^^ w) &&& taps = v &&& taps ^^^ w &&& taps := by
    ext i
    simp [Bool.and_xor_distrib_right]
  have hparity : parity ((v ^^^ w) &&& taps) = (parity (v &&& taps)).xor (parity (w &&& taps)) := by
    rw [hmask]
    exact parityBelow_xor _ _ 32
  rw [lfsrStep, hparity, BitVec.setWidth_xor, ← BitVec.concat_xor_concat]
  rfl

/-- Zero is a fixed point, whatever the taps (R152). -/
@[simp] theorem lfsrStep_zero (taps : Word) : lfsrStep taps 0 = 0 := by
  simpa using lfsrStep_xor taps 0 0

/-- With bit 31 among the taps only zero steps to zero, so the linear step is injective (R152). -/
theorem lfsrStep_injective {taps : Word} (htap : taps.getLsbD 31 = true) : Function.Injective (lfsrStep taps) := by
  intro v w h
  have hzero : lfsrStep taps (v ^^^ w) = 0 := by
    rw [lfsrStep_xor, h]
    exact BitVec.xor_self
  by_contra hne
  exact lfsrStep_ne_zero htap (fun hxor => hne (BitVec.xor_eq_zero_iff.mp hxor)) hzero

/-- Settles O19: an injective map of the finitely many words to themselves is a bijection. -/
theorem lfsrNeverReachesZero : Obligations.LfsrNeverReachesZero := by
  intro taps htap
  have : Finite Word := Finite.of_injective BitVec.toFin BitVec.toFin_injective
  exact ⟨Finite.injective_iff_bijective.mp (lfsrStep_injective htap), lfsrStep_zero taps,
    fun n _ hl => lfsrSteps_ne_zero htap n hl⟩

/-! ### A white byte -/

/-- The model's repeated step is the iterate of the step. -/
theorem lfsrSteps_eq_iterate (taps : Word) (n : Nat) (l : Word) : lfsrSteps taps n l = (lfsrStep taps)^[n] l := by
  induction n generalizing l with
  | zero => rfl
  | succ n ih => exact ih (lfsrStep taps l)

/-- A white byte takes eight steps (R153). -/
theorem whiteNext_eq_iterate (taps l : Word) : whiteNext taps l = (lfsrStep taps)^[8] l :=
  lfsrSteps_eq_iterate taps 8 l

/-- A white byte is the register after its steps modulo 256 (R153). -/
theorem whiteByte_toNat (taps l : Word) : (whiteByte taps l).toNat = (whiteNext taps l).toNat % 2 ^ 8 :=
  BitVec.toNat_setWidth 8 _

/-- `n` steps move every bit that stays in the register up by `n` (R151). -/
theorem getLsbD_iterate_lfsrStep (taps l : Word) {i : Nat} (n : Nat) (h : i + n < 32) :
    ((lfsrStep taps)^[n] l).getLsbD (i + n) = l.getLsbD i := by
  induction n with
  | zero => rfl
  | succ n ih =>
    rw [Function.iterate_succ_apply', ← Nat.add_assoc, getLsbD_succ_lfsrStep taps _ (by omega), ih (by omega)]

/-- After a white byte the register holds its old low 24 bits and, below them, the byte (R153). -/
theorem whiteNext_eq_append (taps l : Word) : whiteNext taps l = l.setWidth 24 ++ whiteByte taps l := by
  apply BitVec.eq_of_getLsbD_eq
  intro i hi
  rw [BitVec.getLsbD_append]
  split
  next hlow => simp [whiteByte, hlow]
  next hhigh =>
    obtain ⟨j, rfl⟩ := Nat.exists_eq_add_of_le' (Nat.le_of_not_lt hhigh)
    have hj : j < 24 := by omega
    rw [whiteNext_eq_iterate, getLsbD_iterate_lfsrStep taps l 8 hi]
    simp [hj]

/-- The register after a white byte as a number (R153). -/
theorem whiteNext_toNat (taps l : Word) :
    (whiteNext taps l).toNat = (l.toNat * 2 ^ 8 + (whiteByte taps l).toNat) % 2 ^ 32 := by
  have hbyte := (whiteByte taps l).isLt
  rw [whiteNext_eq_append, BitVec.toNat_append, ← Nat.shiftLeft_add_eq_or_of_lt hbyte, BitVec.toNat_setWidth,
    Nat.shiftLeft_eq]
  omega

/-- Bit `7 - n` of a white byte is the feedback bit of the step after the first `n`: the `7 - n` steps that follow move
it up there (R153). -/
theorem getLsbD_whiteByte (taps l : Word) {n : Nat} (hn : n < 8) :
    (whiteByte taps l).getLsbD (7 - n) = (lfsrStep taps ((lfsrStep taps)^[n] l)).getLsbD 0 := by
  have hsum : 7 - n + (n + 1) = 8 := by omega
  have hlow : 7 - n < 8 := by omega
  calc (whiteByte taps l).getLsbD (7 - n) = (whiteNext taps l).getLsbD (0 + (7 - n)) := by
        simp [whiteByte, hlow]
    _ = ((lfsrStep taps)^[7 - n] ((lfsrStep taps)^[n + 1] l)).getLsbD (0 + (7 - n)) := by
        rw [whiteNext_eq_iterate, ← Function.iterate_add_apply, hsum]
    _ = ((lfsrStep taps)^[n + 1] l).getLsbD 0 := getLsbD_iterate_lfsrStep taps _ _ (by omega)
    _ = (lfsrStep taps ((lfsrStep taps)^[n] l)).getLsbD 0 := by rw [Function.iterate_succ_apply']

/-- Settles O20: the register and the byte that `whiteStep` leaves; its frame is its definition. -/
theorem wnoiseShiftsInItsByte : Obligations.WnoiseShiftsInItsByte := by
  intro s
  exact ⟨whiteStep s, rfl, rfl, whiteNext_eq_iterate _ _, whiteByte_toNat _ _, whiteNext_toNat _ _,
    fun n hn => getLsbD_whiteByte _ _ hn⟩

/-! ### The band a PNOISE refreshes -/

/-- Up to the band selected the counter has a single 1, at that band where it is one of the counter's bits (R157). -/
theorem getLsbD_of_le_pinkIndex (n : BitVec 7) :
    ∀ j, j < min ((pinkIndex n).val + 1) 7 → n.getLsbD j = decide ((pinkIndex n).val = j) := by
  unfold pinkIndex
  split_ifs
  all_goals
    intro j hj
    have hj7 := hj.trans_le (min_le_right _ 7)
    interval_cases j <;> simp_all [pinkWrapIndex]

/-- These bits single the band out (R157). -/
theorem pinkIndex_eq_iff {n : BitVec 7} {i : Fin 8} :
    pinkIndex n = i ↔ ∀ j, j < min (i.val + 1) 7 → n.getLsbD j = decide (i.val = j) := by
  refine ⟨fun h => h ▸ getLsbD_of_le_pinkIndex n, fun h => ?_⟩
  have hband := getLsbD_of_le_pinkIndex n
  by_contra hne
  obtain hlt | hgt := lt_or_gt_of_ne (Fin.val_ne_of_ne hne)
  · have hbits := (hband (pinkIndex n) (by omega)).symm.trans (h (pinkIndex n) (by omega))
    simp [hlt.ne'] at hbits
  · have hbits := (hband i (by omega)).symm.trans (h i (by omega))
    simp [hgt.ne'] at hbits

/-- Only the wrap to 0 selects band 7 (R157). -/
theorem pinkIndex_eq_seven_iff {n : BitVec 7} : pinkIndex n = 7 ↔ n = 0 := by
  refine ⟨fun h => ?_, fun h => h ▸ rfl⟩
  apply BitVec.eq_of_getLsbD_eq
  intro j hj
  rw [pinkIndex_eq_iff.mp h j hj]
  simpa using hj.ne'

/-- The band selected by a counter that is not 0 is its lowest 1 bit (R157). -/
theorem pinkIndex_lowest {n : BitVec 7} (hn : n ≠ 0) :
    n.getLsbD (pinkIndex n) = true ∧ ∀ j, j < (pinkIndex n).val → n.getLsbD j = false := by
  have hne : (pinkIndex n).val ≠ 7 := fun h => hn (pinkIndex_eq_seven_iff.mp (Fin.ext h))
  have hband := getLsbD_of_le_pinkIndex n
  refine ⟨?_, fun j hj => ?_⟩
  · rw [hband _ (by omega), decide_eq_true rfl]
  · rw [hband j (by omega), decide_eq_false hj.ne']

/-! ### One PNOISE -/

/-- The band selected holds the fresh byte (R156). -/
theorem get_refreshedBand_self (s : State) :
    (refreshedBand s).get (pinkIndex (s.pinkCtr + 1)) = whiteByte s.cfg.lfsrTaps s.lfsr := by
  simp [refreshedBand, Vector.get_eq_getElem]

/-- Every other band keeps its value (R156). -/
theorem get_refreshedBand_of_ne {s : State} {j : Fin 8} (h : j ≠ pinkIndex (s.pinkCtr + 1)) :
    (refreshedBand s).get j = s.band.get j := by
  rw [refreshedBand, Vector.get_eq_getElem, Vector.get_eq_getElem]
  exact Vector.getElem_set_ne _ _ (Fin.val_ne_of_ne h.symm)

/-- The sum of the bands as a sum over their indexes (R156). -/
theorem bandSum_eq_sum (b : Vector Byte 8) : bandSum b = ∑ j : Fin 8, (b.get j).toNat := by
  rw [bandSum, Fin.sum_univ_eight]

/-- Eight bytes add up to at most 2040 (R156). -/
theorem bandSum_le (b : Vector Byte 8) : bandSum b ≤ 2040 := by
  have hbyte : ∀ j, (b.get j).toNat ≤ 255 := fun j => Nat.le_of_lt_succ (b.get j).isLt
  calc bandSum b = ∑ j : Fin 8, (b.get j).toNat := bandSum_eq_sum b
    _ ≤ ∑ _j : Fin 8, 255 := Finset.sum_le_sum fun j _ => hbyte j
    _ = 2040 := rfl

/-- The raw pink sample is the sum of the bands over 16, and is not reduced (R156). -/
theorem pinkStep_raw_toNat (s : State) : (pinkStep s).raw.toNat = bandSum (refreshedBand s) / 16 := by
  have hle := bandSum_le (refreshedBand s)
  rw [pinkStep_raw, BitVec.toNat_ofNat]
  omega

/-- Settles O21: the band selected is that of the counter's next value, which `pinkStep` leaves in PINK_CTR. -/
theorem pnoiseRefreshesOneBand : Obligations.PnoiseRefreshesOneBand := by
  intro s
  have hle := bandSum_le (refreshedBand s)
  refine ⟨pinkStep s, pinkIndex (s.pinkCtr + 1), rfl, rfl, BitVec.toNat_add s.pinkCtr 1, pinkIndex_eq_seven_iff.mpr,
    pinkIndex_lowest, whiteNext_eq_iterate _ _, ?_, fun j hj => get_refreshedBand_of_ne hj, ?_, ?_⟩
  · rw [pinkStep_band, get_refreshedBand_self, whiteByte_toNat, pinkStep_lfsr]
  · rw [pinkStep_raw_toNat, pinkStep_band, bandSum_eq_sum]
  · rw [pinkStep_raw_toNat]
    omega

/-! ### The refresh schedule -/

/-- Congruence modulo a power of 2 is agreement of the bits below it. -/
theorem modEq_two_pow_iff_testBit {a b k : Nat} :
    a ≡ b [MOD 2 ^ k] ↔ ∀ j, j < k → a.testBit j = b.testBit j := by
  constructor
  · intro h j hj
    simpa [Nat.testBit_mod_two_pow, hj] using congrArg (Nat.testBit · j) h
  · intro h
    refine Nat.eq_of_testBit_eq fun j => ?_
    rw [Nat.testBit_mod_two_pow, Nat.testBit_mod_two_pow]
    by_cases hj : j < k
    · rw [h j hj]
    · simp [hj]

/-- Band `i` is refreshed at the counter values congruent to `2^i` modulo `2^(i+1)`; for band 7, whose value is one more
than seven bits hold, at those that wrap to 0 (R158). -/
theorem pinkIndex_ofNat_eq_iff (m : Nat) (i : Fin 8) :
    pinkIndex (BitVec.ofNat 7 m) = i ↔ m ≡ 2 ^ i.val [MOD 2 ^ min (i.val + 1) 7] := by
  rw [pinkIndex_eq_iff, modEq_two_pow_iff_testBit]
  refine forall₂_congr fun j hj => ?_
  have hj7 : j < 7 := hj.trans_le (min_le_right _ 7)
  rw [BitVec.getLsbD_ofNat, decide_eq_true hj7, Bool.true_and, Nat.testBit_two_pow]

/-- A window of whole periods meets each congruence class once in every period. -/
theorem count_add_modEq_of_dvd {r b : Nat} (a v : Nat) (hr : 0 < r) (h : r ∣ b) :
    b.count (fun k => a + k ≡ v [MOD r]) = b / r := by
  obtain ⟨q, rfl⟩ := h
  have hsum := Nat.count_add (· ≡ v [MOD r]) a (r * q)
  rw [Nat.count_modEq_card _ hr, Nat.count_modEq_card _ hr, Nat.add_mul_div_left _ _ hr,
    Nat.add_mul_mod_self_left] at hsum
  rw [Nat.mul_div_cancel_left _ hr]
  omega

/-- Settles O22: the congruence that a band's calls satisfy, counted over whole periods of it. -/
theorem pinkRefreshCounts : Obligations.PinkRefreshCounts := by
  intro ctr i
  have hcall : ∀ c, pinkIndex (ctr + BitVec.ofNat 7 (c + 1)) = i ↔
      ctr.toNat + 1 + c ≡ 2 ^ i.val [MOD 2 ^ min (i.val + 1) 7] := by
    intro c
    rw [← pinkIndex_ofNat_eq_iff, Nat.add_assoc, Nat.add_comm 1 c, BitVec.ofNat_add ctr.toNat, BitVec.ofNat_toNat,
      BitVec.setWidth_eq]
  have htable : ∀ k : Fin 8, 2 ^ 7 / 2 ^ min (k.val + 1) 7 = #v[64, 32, 16, 8, 4, 2, 1, 1].get k := by decide
  simp only [hcall, ← htable]
  exact count_add_modEq_of_dvd _ _ (by positivity) (pow_dvd_pow 2 (min_le_right _ 7))

/-! ### A sequence of PNOISE operations -/

/-- PNOISE repeated is its state change iterated. -/
theorem execAll_replicate_pnoise (n : Nat) (s : State) :
    execAll (List.replicate n .pnoise) s = .next (pinkStep^[n] s) := by
  induction n generalizing s with
  | zero => rfl
  | succ n ih => exact ih (pinkStep s)

/-- No number of PNOISE operations writes the configuration (R73). -/
@[simp] theorem iterate_pinkStep_cfg (n : Nat) (s : State) : (pinkStep^[n] s).cfg = s.cfg := by
  induction n with
  | zero => rfl
  | succ n ih => rw [Function.iterate_succ_apply', pinkStep_cfg, ih]

/-- `n` PNOISE operations add `n` to the counter (R156). -/
theorem iterate_pinkStep_pinkCtr (n : Nat) (s : State) :
    (pinkStep^[n] s).pinkCtr = s.pinkCtr + BitVec.ofNat 7 n := by
  induction n with
  | zero => simp
  | succ n ih => simp [Function.iterate_succ_apply', ih, BitVec.ofNat_add, BitVec.add_assoc]

/-- Each PNOISE moves LFSR by eight steps (R159). -/
theorem iterate_pinkStep_lfsr (n : Nat) (s : State) :
    (pinkStep^[n] s).lfsr = (lfsrStep s.cfg.lfsrTaps)^[8 * n] s.lfsr := by
  induction n with
  | zero => rfl
  | succ n ih =>
    rw [Function.iterate_succ_apply', pinkStep_lfsr, iterate_pinkStep_cfg, ih, whiteNext_eq_iterate,
      ← Function.iterate_add_apply, Nat.mul_succ, Nat.add_comm]

/-- Band 7 keeps its value as long as the counter has not wrapped (R158). -/
theorem iterate_pinkStep_band_seven {n : Nat} {s : State} (hctr : s.pinkCtr.toNat + n ≤ 127) :
    (pinkStep^[n] s).band.get 7 = s.band.get 7 := by
  induction n with
  | zero => rfl
  | succ n ih =>
    have hnext : (pinkStep^[n] s).pinkCtr + 1 ≠ 0 := by
      rw [iterate_pinkStep_pinkCtr]
      bv_omega
    rw [Function.iterate_succ_apply', pinkStep_band,
      get_refreshedBand_of_ne fun h => hnext (pinkIndex_eq_seven_iff.mp h.symm), ih (by omega)]

/-- Settles O23: the counter reaches at most 127, so it does not wrap. -/
theorem bandSevenWaitsForTheWrap : Obligations.BandSevenWaitsForTheWrap := by
  intro s n hctr hn
  refine ⟨pinkStep^[n] s, execAll_replicate_pnoise n s, iterate_pinkStep_band_seven (by simpa [hctr] using hn), ?_,
    iterate_pinkStep_lfsr n s⟩
  rw [iterate_pinkStep_pinkCtr, hctr]
  bv_omega

end Sys2Proof.Machine
end

section
/-! The loop player, SILENCE and the multiplexer (spec/42_loop_mux.md R182 to R190): LOOP0 to LOOP3 are one datapath, so
a sequence of one of them is an iterate of `playLoop`; and each mode runs one generator, which keeps the others'
registers. -/
namespace Sys2Proof.Machine

/-! ### One loop operation -/

/-- What LOOPk answers at a position of its loop: the state advanced on the entry at that position (R182). -/
def playLoop (k : Fin 4) (s : State) : State :=
  loopAdvance k (Memory.read (s.cfg.loop k).data (loopIndex s.cfg.oversample s.pos)) s

@[simp] theorem playLoop_cfg (k : Fin 4) (s : State) : (playLoop k s).cfg = s.cfg := rfl
@[simp] theorem playLoop_pos (k : Fin 4) (s : State) : (playLoop k s).pos = nextPos s.cfg k s.pos := rfl
@[simp] theorem playLoop_raw (k : Fin 4) (s : State) :
    (playLoop k s).raw = Memory.read (s.cfg.loop k).data (s.pos.toNat / s.cfg.oversample) ^^^ 0x80 := rfl

/-- A loop operation changes POS and the raw sample, and nothing else (R182). -/
theorem playLoop_frame (k : Fin 4) (s : State) :
    playLoop k s = { s with raw := (playLoop k s).raw, pos := (playLoop k s).pos } := rfl

/-- The four loop operations are one datapath over four ROMs (R187 to R190). -/
theorem exec_loopInstr (k : Fin 4) (s : State) : exec (loopInstr k) s = loopStep k s := by
  fin_cases k <;> rfl

/-- LOOPk answers at every position of its loop (R183). -/
theorem exec_loopInstr_of_lt {k : Fin 4} {s : State} (hpos : s.pos.toNat < s.cfg.loopSpan k) :
    exec (loopInstr k) s = .next (playLoop k s) := by
  rw [exec_loopInstr]
  exact loopStep_eq_next.mpr ⟨loopIndex_lt hpos, rfl⟩

/-- The next position as a number: in a loop R9 allows, the increment before the last position does not overflow
(R182). -/
theorem nextPos_toNat {c : Config} {k : Fin 4} (pos : Word) (hspan : c.loopSpan k ≤ 2 ^ 32 - 1) :
    (nextPos c k pos).toNat = if c.loopSpan k ≤ pos.toNat + 1 then 0 else pos.toNat + 1 := by
  unfold nextPos
  split
  · rfl
  · bv_omega

/-- Settles O24: what `playLoop` leaves in each field. -/
theorem loopReturnsByteThenAdvances : Obligations.LoopReturnsByteThenAdvances := by
  intro s k hpos hspan
  exact ⟨playLoop k s, exec_loopInstr_of_lt hpos, playLoop_frame k s, playLoop_raw k s, nextPos_toNat s.pos hspan⟩

/-! ### A sequence of operations of one loop -/

/-- The next position is the successor modulo the number of positions (R184). -/
theorem nextPos_toNat_eq_mod {c : Config} {k : Fin 4} {pos : Word} (hpos : pos.toNat < c.loopSpan k)
    (hspan : c.loopSpan k ≤ 2 ^ 32 - 1) : (nextPos c k pos).toNat = (pos.toNat + 1) % c.loopSpan k := by
  rw [nextPos_toNat pos hspan]
  split
  · have hlast : pos.toNat + 1 = c.loopSpan k := by omega
    rw [hlast, Nat.mod_self]
  · rw [Nat.mod_eq_of_lt (by omega)]

/-- From a position of its loop, LOOPk repeated is `playLoop` iterated: every position it comes to is in range. -/
theorem execAll_replicate_loopInstr {k : Fin 4} (n : Nat) {s : State} (hpos : s.pos.toNat < s.cfg.loopSpan k) :
    execAll (List.replicate n (loopInstr k)) s = .next ((playLoop k)^[n] s) := by
  induction n generalizing s with
  | zero => rfl
  | succ n ih =>
    rw [List.replicate_succ, execAll, exec_loopInstr_of_lt hpos, andThen_next, Function.iterate_succ_apply]
    exact ih (nextPos_lt (Nat.zero_lt_of_lt hpos))

/-- No number of loop operations writes the configuration (R73). -/
@[simp] theorem iterate_playLoop_cfg (k : Fin 4) (n : Nat) (s : State) : ((playLoop k)^[n] s).cfg = s.cfg := by
  induction n with
  | zero => rfl
  | succ n ih => rw [Function.iterate_succ_apply', playLoop_cfg, ih]

/-- `n` loop operations move POS by `n` around the loop (R184). -/
theorem iterate_playLoop_pos_toNat {k : Fin 4} (n : Nat) {s : State} (hpos : s.pos.toNat < s.cfg.loopSpan k)
    (hspan : s.cfg.loopSpan k ≤ 2 ^ 32 - 1) :
    ((playLoop k)^[n] s).pos.toNat = (s.pos.toNat + n) % s.cfg.loopSpan k := by
  induction n with
  | zero => exact (Nat.mod_eq_of_lt hpos).symm
  | succ n ih =>
    have hlt : ((playLoop k)^[n] s).pos.toNat < s.cfg.loopSpan k := ih ▸ Nat.mod_lt _ (Nat.zero_lt_of_lt hpos)
    rw [Function.iterate_succ_apply', playLoop_pos, iterate_playLoop_cfg, nextPos_toNat_eq_mod hlt hspan, ih,
      Nat.mod_add_mod, Nat.add_assoc]

/-- Settles O26: the last of the operations reads the position that the `n` before it leave. -/
theorem loopPlaybackClosedForm : Obligations.LoopPlaybackClosedForm := by
  intro s k n hzero hone hspan
  have hpos : s.pos.toNat < s.cfg.loopSpan k := by rwa [hzero]
  have hafter (m : Nat) : ((playLoop k)^[m] s).pos.toNat = m % s.cfg.loopSpan k := by
    simpa [hzero] using iterate_playLoop_pos_toNat m hpos hspan
  refine ⟨(playLoop k)^[n + 1] s, execAll_replicate_loopInstr (n + 1) hpos, hafter (n + 1), ?_⟩
  rw [Function.iterate_succ_apply', playLoop_raw, iterate_playLoop_cfg, hafter]

/-! ### SILENCE -/

/-- Every select value of 8 or more is SILENCE (R107). -/
theorem decodeMsel_of_eight_le {w : BitVec 4} (h : 8 ≤ w.toNat) : decodeMsel w = .silence := by
  rw [decodeMsel, (getLsbD_three_iff w).mpr h]

/-- The raw sample 0 is silent at every volume (R185). -/
@[simp] theorem scale_zero_left (vol : Byte) : scale 0 vol = 0 :=
  BitVec.eq_of_toNat_eq (by simp [scale_toNat])

/-- Settles O27: the multiplexer runs what the select value decodes to. -/
theorem silenceReturnsZero : Obligations.SilenceReturnsZero := by
  refine ⟨fun s => rfl, fun w s hw => ⟨?_, ?_⟩, scale_zero_left⟩
  · rw [decode, decodeMsel_of_eight_le hw]
    rfl
  · rw [muxSelect, decodeMsel_of_eight_le hw]
    rfl

/-! ### The unit of each mode -/

/-- A loop mode runs its own loop (R186). -/
theorem muxSelect_mselOf_loop {m : BitVec 3} {k : Fin 4} (h : m.toNat = k.val) (s : State) :
    muxSelect (mselOf m) s = loopStep k s := by
  rw [muxSelect, decodeMsel_mselOf, h]
  fin_cases k <;> rfl

/-- Both tone modes run the tone (R186). -/
theorem muxSelect_mselOf_tone {m : BitVec 3} (h : m.toNat = 4 ∨ m.toNat = 5) (s : State) :
    muxSelect (mselOf m) s = .next (toneStep s) := by
  obtain h | h := h <;> simp only [muxSelect, decodeMsel_mselOf, h, execTone0, execTone1]

/-- Mode 6 runs the white noise (R186). -/
theorem muxSelect_mselOf_white {m : BitVec 3} (h : m.toNat = 6) (s : State) :
    muxSelect (mselOf m) s = .next (whiteStep s) := by
  simp only [muxSelect, decodeMsel_mselOf, h, execWnoise]

/-- Mode 7 runs the pink noise (R186). -/
theorem muxSelect_mselOf_pink {m : BitVec 3} (h : m.toNat = 7) (s : State) :
    muxSelect (mselOf m) s = .next (pinkStep s) := by
  simp only [muxSelect, decodeMsel_mselOf, h, execPnoise]

/-- Every mode is of one of the four units (R186). -/
theorem mode_unit (m : BitVec 3) :
    (∃ k : Fin 4, m.toNat = k.val) ∨ (m.toNat = 4 ∨ m.toNat = 5) ∨ m.toNat = 6 ∨ m.toNat = 7 := by
  revert m
  decide

/-- Outside the tone modes the pending update keeps INC (R231). -/
theorem pendingStep_inc_of_not_tone {s : State} (h4 : s.mode ≠ 4) (h5 : s.mode ≠ 5) : (pendingStep s).inc = s.inc := by
  have htone : isToneMode s.mode = false := by
    rw [isToneMode, decide_eq_false h4, decide_eq_false h5, Bool.or_self]
  simp [htone]

/-- Settles O31: by the unit the mode runs; INC is written by the pending update alone. -/
theorem otherGeneratorsKeepTheirRegisters : Obligations.OtherGeneratorsKeepTheirRegisters := by
  intro s t h
  obtain ⟨u, hmux, rfl⟩ := execAudioTick_eq_next.mp h
  have hinc : u.inc = (pendingStep s).inc := by rw [muxSelect_frame hmux]
  have hincs : (s.mode ≠ 4 → s.mode ≠ 5 → u.inc = s.inc) ∧ (s.pending = false → u.inc = s.inc) :=
    ⟨fun h4 h5 => hinc.trans (pendingStep_inc_of_not_tone h4 h5), fun hp => hinc.trans (by simp [hp])⟩
  obtain ⟨k, hm⟩ | hm | hm | hm := mode_unit s.mode
  · obtain ⟨-, rfl⟩ := loopStep_eq_next.mp (muxSelect_mselOf_loop hm _ ▸ hmux)
    exact ⟨fun _ => pendingStep_phase s, fun _ => pendingStep_lfsr s,
      fun _ => ⟨pendingStep_band s, pendingStep_pinkCtr s⟩, by omega, by omega, hincs⟩
  · cases (muxSelect_mselOf_tone hm _).symm.trans hmux
    exact ⟨by omega, fun _ => pendingStep_lfsr s, fun _ => ⟨pendingStep_band s, pendingStep_pinkCtr s⟩,
      fun _ => pendingStep_pos s, by omega, hincs⟩
  · cases (muxSelect_mselOf_white hm _).symm.trans hmux
    exact ⟨by omega, by omega, fun _ => ⟨pendingStep_band s, pendingStep_pinkCtr s⟩,
      fun _ => pendingStep_pos s, fun _ => pendingStep_phase s, hincs⟩
  · cases (muxSelect_mselOf_pink hm _).symm.trans hmux
    exact ⟨by omega, by omega, by omega, fun _ => pendingStep_pos s, fun _ => pendingStep_phase s, hincs⟩

end Sys2Proof.Machine
end

section
/-! The mode state machine (spec/43_mode_fsm.md R211 to R214): what one poll leaves, the count of MODE over polls that
each find RISE, and the edges a poll takes together. -/
namespace Sys2Proof.Machine

/-! ### One poll -/

/-- A request of FG_POLL without RESET performs it last (R106, R211). -/
theorem getLast?_decodeEv_of_poll {ev : BitVec 4} (h3 : ev.getLsbD 3 = false) (h0 : ev.getLsbD 0 = true) (btn : Bool)
    (adc : BitVec 12) : (decodeEv ev btn adc).getLast? = some .fgPoll := by
  have hne : ev ≠ 0 := by
    rintro rfl
    simp at h0
  rw [decodeEv_of_events h3 hne, if_pos h0, List.getLast?_concat]

/-- Only FG and RESET own MODE, so no operation but FG_POLL and RESET writes it (R51, R211). -/
theorem exec_keeps_mode {i : Instr} {s t : State} (h : exec i s = .next t) (hpoll : i ≠ .fgPoll)
    (hreset : i ≠ .reset) : t.mode = s.mode := by
  have hnot : ∀ a, agentOf i = some a → a.mayWrite .mode = false := by
    intro a ha
    cases i with
    | fgPoll => exact absurd rfl hpoll
    | reset => exact absurd rfl hreset
    | idle | deadlineCheck goal => cases ha
    | audioTick | serviceTick btn adc | loop0 | loop1 | loop2 | loop3 | tone0 | tone1 | wnoise | pnoise | silence =>
      cases ha
      rfl
  exact BitVec.eq_of_toNat_eq (agentsWriteOnlyTheirRegisters i s t h .mode hnot)

/-- Settles O10: the poll by whether it finds RISE (`exec_fgPoll_of_rise`, `exec_fgPoll_of_not_rise`), MODE's other
writers by its owners. -/
theorem fgPollConsumesEdges : Obligations.FgPollConsumesEdges := by
  refine ⟨fun ev btn adc h3 h0 => getLast?_decodeEv_of_poll h3 h0 btn adc, fun s => ?_,
    fun i s t h hpoll hreset => exec_keeps_mode h hpoll hreset⟩
  cases hrise : s.rise with
  | true =>
    exact ⟨_, exec_fgPoll_of_rise hrise, rfl, rfl, rfl, fun _ => ⟨BitVec.toNat_add s.mode 1, rfl⟩, by simp⟩
  | false => exact ⟨_, exec_fgPoll_of_not_rise hrise, rfl, hrise, rfl, by simp, fun _ => ⟨rfl, rfl⟩⟩

/-! ### A sequence of polls -/

/-- A poll that found RISE has advanced MODE and left PENDING set (R211). -/
theorem mode_pending_of_exec_fgPoll {s t : State} (hrise : s.rise = true) (h : exec .fgPoll s = .next t) :
    t.mode = s.mode + 1 ∧ t.pending = true := by
  cases (exec_fgPoll_of_rise hrise).symm.trans h
  exact ⟨rfl, rfl⟩

/-- Polls that each advance MODE count in it, whatever runs between them without writing it (R211, R213). -/
theorem mode_after_polls {f g : Nat → State} (n : Nat) (hpoll : ∀ k ≤ n, (g k).mode = (f k).mode + 1)
    (hkept : ∀ k < n, (f (k + 1)).mode = (g k).mode) : (g n).mode = (f 0).mode + BitVec.ofNat 3 (n + 1) := by
  induction n with
  | zero => exact hpoll 0 le_rfl
  | succ n ih =>
    have hbefore : (g n).mode = (f 0).mode + BitVec.ofNat 3 (n + 1) :=
      ih (fun k hk => hpoll k (by omega)) fun k hk => hkept k (by omega)
    calc (g (n + 1)).mode = (f (n + 1)).mode + 1 := hpoll (n + 1) le_rfl
      _ = (f 0).mode + BitVec.ofNat 3 (n + 1) + 1 := by rw [hkept n (by omega), hbefore]
      _ = (f 0).mode + BitVec.ofNat 3 (n + 1 + 1) := by rw [BitVec.ofNat_add (n + 1) 1, BitVec.add_assoc]; rfl

/-- Settles O11: after eight polls MODE has advanced by 8, which is 0 in three bits. -/
theorem eightRisingEdgesReturnMode : Obligations.EightRisingEdgesReturnMode := by
  refine ⟨fun f g hpolls hkept => ?_, fun s hrise => ⟨_, exec_fgPoll_of_not_rise hrise, rfl, rfl⟩⟩
  have hpoll : ∀ k < 8, (g k).mode = (f k).mode + 1 ∧ (g k).pending = true := fun k hk =>
    mode_pending_of_exec_fgPoll (hpolls k hk).1 (hpolls k hk).2
  obtain ⟨-, hpending⟩ := hpoll 7 (by decide)
  refine ⟨?_, hpending⟩
  calc (g 7).mode = (f 0).mode + BitVec.ofNat 3 (7 + 1) :=
        mode_after_polls 7 (fun k hk => (hpoll k (by omega)).1) hkept
    _ = (f 0).mode := BitVec.add_zero _

/-! ### Edges between two polls -/

/-- Samples given in two parts are the SERVICE_TICKs of the one and then of the other (R250). -/
theorem serviceOps_append (before samples : List (Bool × BitVec 12)) :
    serviceOps (before ++ samples) = serviceOps before ++ serviceOps samples := List.map_append

/-- After a run of samples that ends at a count of 0, N samples of the other level are accepted and their edge flagged
(R253 a). -/
theorem execAll_serviceOps_append_accept {b : Bool} {r s : State} {before samples : List (Bool × BitVec 12)}
    (hrun : execAll (serviceOps before) r = .next s) (hpos : 1 ≤ s.cfg.debounceN) (hmax : s.cfg.debounceN ≤ 255)
    (hb : b ≠ s.dbLevel) (hcount : s.dbCount = 0) (hlength : samples.length = s.cfg.debounceN)
    (hlevel : ∀ x ∈ samples, x.1 = b) :
    ∃ vol tick, execAll (serviceOps (before ++ samples)) r =
      .next { s with dbLevel := b, dbCount := 0, rise := s.rise || b, fall := s.fall || !b, vol := vol,
                     tick := tick } := by
  have hne : samples ≠ [] := List.ne_nil_of_length_pos (by omega)
  obtain ⟨vol, haccept⟩ := execAll_serviceOps_accept samples hne hlevel hb hmax (by simp [hcount, hlength])
  refine ⟨vol, s.tick + BitVec.ofNat 32 samples.length, ?_⟩
  rw [serviceOps_append, execAll_append, hrun, andThen_next, haccept]

/-- Settles O13: three accepted edges, the last like the first, leave both flags set, and the poll finds one RISE. -/
theorem edgesCoalesceBetweenPolls : Obligations.EdgesCoalesceBetweenPolls := by
  intro s up down again hpos hmax hlevel hcount hup hdown hagain hups hdowns hagains
  have hstart : execAll (serviceOps []) s = .next s := rfl
  obtain ⟨_, _, hrise⟩ := execAll_serviceOps_append_accept hstart hpos hmax (by simp [hlevel]) hcount hup hups
  obtain ⟨_, _, hfall⟩ := execAll_serviceOps_append_accept hrise hpos hmax (by simp) rfl hdown hdowns
  obtain ⟨_, _, hagainRise⟩ := execAll_serviceOps_append_accept hfall hpos hmax (by simp) rfl hagain hagains
  exact ⟨_, _, hagainRise, Bool.or_true _, by simp, rfl, rfl, exec_fgPoll_of_rise (Bool.or_true _),
    BitVec.toNat_add s.mode 1, rfl, rfl⟩

end Sys2Proof.Machine
end

section
/-! AUDIO_TICK (spec/44_audio_tick.md R230 to R236): the laws of the volume scaler, the four steps of a tick, its
completion, its first sample after a mode change, and the count of the samples put out. -/
namespace Sys2Proof.Machine

/-! ### The volume scaler -/

/-- The scaler treats the raw sample and the volume alike (R233). -/
theorem scale_comm (raw vol : Byte) : scale raw vol = scale vol raw := by
  rw [scale, scale, Nat.mul_comm]

/-- The product of a raw sample and a volume fits in 16 bits (R233). -/
theorem raw_mul_vol_le (raw vol : Byte) : raw.toNat * vol.toNat ≤ 65025 :=
  Nat.mul_le_mul (Nat.le_of_lt_succ raw.isLt) (Nat.le_of_lt_succ vol.isLt)

/-- The scaled sample is the high byte of the product held in 16 bits (R233). -/
theorem scale_eq_extractLsb' (raw vol : Byte) :
    scale raw vol = (raw.setWidth 16 * vol.setWidth 16).extractLsb' 8 8 := by
  have hraw := raw.isLt
  have hvol := vol.isLt
  have hprod := raw_mul_vol_le raw vol
  apply BitVec.eq_of_toNat_eq
  rw [scale_toNat, BitVec.extractLsb'_toNat, BitVec.toNat_mul, BitVec.toNat_setWidth, BitVec.toNat_setWidth,
    Nat.mod_eq_of_lt (a := raw.toNat) (by omega), Nat.mod_eq_of_lt (a := vol.toNat) (by omega),
    Nat.shiftRight_eq_div_pow]
  omega

/-- Scaling never makes a sample louder (R233). -/
theorem scale_le_raw (raw vol : Byte) : (scale raw vol).toNat ≤ raw.toNat := by
  rw [scale_toNat, Nat.mul_comm]
  exact Nat.div_le_of_le_mul (Nat.mul_le_mul_right _ vol.isLt.le)

/-- The highest volume takes 1 from every sample but 0 (R233). -/
theorem scale_full_toNat {raw : Byte} (h : 1 ≤ raw.toNat) : (scale raw 255).toNat = raw.toNat - 1 := by
  have hlt := raw.isLt
  rw [scale_toNat, show (255 : Byte).toNat = 255 from rfl]
  omega

/-- Half the volume is a shift by one (R233). -/
theorem scale_half (raw : Byte) : scale raw 128 = raw >>> 1 := by
  apply BitVec.eq_of_toNat_eq
  rw [scale_toNat, BitVec.toNat_ushiftRight, Nat.shiftRight_eq_div_pow, show (128 : Byte).toNat = 128 from rfl]
  omega

/-- Settles O28: the laws of the scaler, those on the volume's side by `scale_comm`. -/
theorem scaleTruncatesTheProduct : Obligations.ScaleTruncatesTheProduct := by
  intro raw vol
  exact ⟨scale_toNat raw vol, raw_mul_vol_le raw vol, scale_eq_extractLsb' raw vol,
    (scale_comm raw 0).trans (scale_zero_left raw), scale_zero_left vol, scale_le_raw raw vol,
    scale_comm raw vol ▸ scale_le_raw vol raw, scale_full_toNat, scale_half raw, rfl⟩

/-! ### The four steps of a tick -/

/-- The operation a select word decodes to is what the multiplexer runs for it (R107, R186). -/
theorem exec_decodeMsel_instr (w : BitVec 4) (s : State) : exec (decodeMsel w).instr s = muxSelect w s := by
  unfold muxSelect
  cases decodeMsel w <;> rfl

/-- Where the generator MODE selects answers, the tick answers its state with the raw sample scaled by VOL and delivered
(R230). -/
theorem exec_audioTick_of_muxSelect {s u : State} (h : muxSelect (mselOf s.mode) (pendingStep s) = .next u) :
    exec .audioTick s = .next (emitSample (scale u.raw s.vol) u) := by
  have hvol : u.vol = s.vol := by rw [muxSelect_frame h, pendingStep_vol]
  exact execAudioTick_eq_next.mpr ⟨u, h, by rw [hvol]⟩

/-- Without a pending update nothing is written (R231). -/
theorem pendingStep_of_not_pending {s : State} (h : s.pending = false) : pendingStep s = s :=
  if_neg (Bool.eq_false_iff.mp h)

/-- The update loads INC with the frequency word of the tone sub-mode, and keeps it in the other modes (R231). -/
theorem incOfMode_eq (mode : BitVec 3) (c : Config) (inc : Word) :
    (if isToneMode mode then c.freqWord (tonePreset mode) else inc) =
      if mode.toNat = 4 then c.freqWord 0 else if mode.toNat = 5 then c.freqWord 1 else inc := by
  by_cases h4 : mode.toNat = 4
  · obtain rfl : mode = 4 := BitVec.eq_of_toNat_eq h4
    rfl
  · by_cases h5 : mode.toNat = 5
    · obtain rfl : mode = 5 := BitVec.eq_of_toNat_eq h5
      rfl
    · have htone : isToneMode mode = false := by
        rw [isToneMode, decide_eq_false (mt (congrArg BitVec.toNat) h4),
          decide_eq_false (mt (congrArg BitVec.toNat) h5), Bool.or_self]
      simp [h4, h5, htone]

/-- A pending update clears PENDING, POS and PHASE, and loads INC in a tone sub-mode (R231). -/
theorem pendingStep_of_pending {s : State} (h : s.pending = true) :
    pendingStep s = { s with
      pending := false, pos := 0, phase := 0,
      inc := if s.mode.toNat = 4 then s.cfg.freqWord 0 else if s.mode.toNat = 5 then s.cfg.freqWord 1 else s.inc } := by
  rw [pendingStep, if_pos h, incOfMode_eq]
  rfl

/-- Settles O29: `p` is the state the pending update leaves, and the select word is the one MODE stands for. -/
theorem audioTickRunsItsFourSteps : Obligations.AudioTickRunsItsFourSteps := by
  intro s p u hkept hupdated hgen
  have hp : p = pendingStep s := by
    cases hpending : s.pending with
    | false => rw [hkept hpending, pendingStep_of_not_pending hpending]
    | true => rw [hupdated hpending, pendingStep_of_pending hpending]
  rw [exec_decodeMsel_instr, BitVec.ofNat_toNat, hp] at hgen
  exact ⟨_, exec_audioTick_of_muxSelect hgen, rfl, scale_toNat u.raw s.vol⟩

/-! ### Completion -/

/-- After the pending update POS is a position of the loop the mode plays (R183). -/
theorem pendingStep_pos_lt {s : State} {k : Fin 4} (hv : s.cfg.valid = true) (hrange : loopInRange s)
    (hm : s.mode.toNat = k.val) : (pendingStep s).pos.toNat < (pendingStep s).cfg.loopSpan k := by
  have hk : loopOfMode s.mode = some k := by simp [loopOfMode, hm]
  rw [pendingStep_pos, pendingStep_cfg]
  split
  · exact loopSpan_pos hv k
  · obtain hpending | hpos := hrange
    · contradiction
    · exact hpos k hk

/-- In a loop mode the tick plays the loop at the position the pending update leaves (R182, R186). -/
theorem muxSelect_pendingStep_of_loop {s : State} {k : Fin 4} (hv : s.cfg.valid = true) (hrange : loopInRange s)
    (hm : s.mode.toNat = k.val) :
    muxSelect (mselOf s.mode) (pendingStep s) = .next (playLoop k (pendingStep s)) := by
  rw [muxSelect_mselOf_loop hm, ← exec_loopInstr]
  exact exec_loopInstr_of_lt (pendingStep_pos_lt hv hrange hm)

/-- The generator of every mode answers after the pending update (R280). -/
theorem exists_muxSelect_pendingStep {s : State} (hv : s.cfg.valid = true) (hrange : loopInRange s) :
    ∃ u, muxSelect (mselOf s.mode) (pendingStep s) = .next u := by
  obtain ⟨k, hm⟩ | hm | hm | hm := mode_unit s.mode
  · exact ⟨_, muxSelect_pendingStep_of_loop hv hrange hm⟩
  · exact ⟨_, muxSelect_mselOf_tone hm _⟩
  · exact ⟨_, muxSelect_mselOf_white hm _⟩
  · exact ⟨_, muxSelect_mselOf_pink hm _⟩

/-- Settles O30: the generator answers (`exists_muxSelect_pendingStep`), and the frame is `execAudioTick_frame`. -/
theorem audioTickCompletes : Obligations.AudioTickCompletes := by
  intro s hv hrange
  obtain ⟨u, hmux⟩ := exists_muxSelect_pendingStep hv hrange
  have hexec := exec_audioTick_of_muxSelect hmux
  exact ⟨_, hexec, execAudioTick_frame hexec, scale_toNat u.raw s.vol⟩

/-! ### The first sample after a mode change -/

/-- Settles O32: the update leaves PHASE 0 and INC `FW[0]`, and the tone reads the sine ROM at the old phase. -/
theorem enteringToneModeStartsAtMidScale : Obligations.EnteringToneModeStartsAtMidScale := by
  intro s hmode hpending hrate
  obtain ⟨-, hwords⟩ := frequencyWordIsExactFloor
  have hword : (s.cfg.freqWord 0).toNat = 21474836 := hwords s.cfg hrate
  have hinc : (pendingStep s).inc = s.cfg.freqWord 0 := by simp [pendingStep_of_pending hpending, hmode]
  have hstart : (pendingStep s).phase = 0 := by simp [hpending]
  have hphase : (toneStep (pendingStep s)).phase = s.cfg.freqWord 0 := by
    rw [toneStep_phase, hstart, hinc]
    exact BitVec.zero_add _
  have hraw : (toneStep (pendingStep s)).raw = 128 := by
    rw [toneStep_raw, hstart]
    exact sineRom_zero _
  have hexec := exec_audioTick_of_muxSelect (muxSelect_mselOf_tone (.inl (by rw [hmode]; rfl)) (pendingStep s))
  rw [hraw] at hexec
  exact ⟨_, hexec, (congrArg BitVec.toNat hinc).trans hword, (congrArg BitVec.toNat hphase).trans hword,
    pendingStep_pending s, hraw, by simp, scale_toNat 128 s.vol⟩

/-- Settles O33: the update leaves POS 0, which is read before it moves on. -/
theorem enteringLoopModeStartsAtFirstEntry : Obligations.EnteringLoopModeStartsAtFirstEntry := by
  intro s k hv hm hpending
  obtain ⟨-, hloops, -⟩ := (valid_iff s.cfg).mp hv
  obtain ⟨-, hspan⟩ := hloops k
  have hmode : s.mode.toNat < 4 := hm ▸ k.isLt
  have hpos : (pendingStep s).pos = 0 := by simp [hpending]
  refine ⟨_, exec_audioTick_of_muxSelect (muxSelect_pendingStep_of_loop hv (.inl hpending) hm), pendingStep_pending s,
    ?_, ?_, ?_, ?_⟩
  · rw [emitSample_phase, playLoop, loopAdvance_phase, pendingStep_phase, if_pos hpending]
  · exact pendingStep_inc_of_not_tone (fun h => by simp [h] at hmode) fun h => by simp [h] at hmode
  · rw [emitSample_raw, playLoop_raw, pendingStep_cfg, hpos]
    simp
  · have hone : 1 ≤ s.cfg.loopSpan k := loopSpan_pos hv k
    have hzero : (0 : Word).toNat = 0 := rfl
    rw [emitSample_pos, playLoop_pos, pendingStep_cfg, hpos, nextPos_toNat 0 hspan]
    split <;> split <;> omega

/-! ### The samples put out -/

/-- An operation emits one sample where it is AUDIO_TICK, and none otherwise (R234). -/
theorem length_emittedBy (i : Instr) (out : Byte) : (emittedBy i out).length = [i].count .audioTick := by
  rw [List.count_singleton, emittedBy]
  split <;> simp_all

/-- Settles O34: the first operation's samples, and then those of the rest. -/
theorem oneSamplePerAudioTick : Obligations.OneSamplePerAudioTick := by
  intro ops
  induction ops with
  | nil =>
    intro s t h
    cases h
    exact ⟨[], (List.append_nil _).symm, rfl⟩
  | cons i ops ih =>
    intro s t h
    obtain ⟨u, hfirst, hrest⟩ := andThen_eq_next.mp h
    obtain ⟨hsink, -⟩ := exec_outputs hfirst
    obtain ⟨samples, hsamples, hlength⟩ := ih u t hrest
    refine ⟨emittedBy i u.out ++ samples, by rw [hsamples, hsink, List.append_assoc], ?_⟩
    rw [List.length_append, length_emittedBy, hlength, ← List.count_append, List.singleton_append]

end Sys2Proof.Machine
end

section
/-! SERVICE_TICK and the deadline comparator (spec/45_tick_debounce.md R250 to R259): one sample through the debounce
filter, the volume mapping, the count of TICK, runs of samples, and the signed difference. -/
namespace Sys2Proof.Machine

/-! ### One SERVICE_TICK -/

/-- SERVICE_TICK always completes, by its three steps in turn (R250). -/
theorem exec_serviceTick (b : Bool) (adc : BitVec 12) (s : State) :
    exec (.serviceTick b adc) s = .next (tickStep (volumeStep adc (debounceStep b s))) := rfl

/-- A sample of the stable level clears the count (R250, R252). -/
theorem exec_serviceTick_agree {b : Bool} {s : State} (adc : BitVec 12) (hb : b = s.dbLevel) :
    exec (.serviceTick b adc) s = .next { s with dbCount := 0, vol := volumeSample adc, tick := s.tick + 1 } := by
  rw [exec_serviceTick, debounceStep_of_eq hb]
  rfl

/-- The volume mapping as a number (R255). -/
theorem volumeSample_toNat (adc : BitVec 12) : (volumeSample adc).toNat = 255 - adc.toNat / 16 :=
  Nat.mod_eq_of_lt (Nat.lt_succ_of_le (Nat.sub_le 255 _))

/-- A count below N does not wrap when N fits in the register (R9, R252). -/
theorem dbCount_add_toNat {s : State} {n : Nat} (h : s.dbCount.toNat + n < s.cfg.debounceN)
    (hmax : s.cfg.debounceN ≤ 255) : (s.dbCount + BitVec.ofNat 8 n).toNat = s.dbCount.toNat + n := by
  rw [BitVec.toNat_add, BitVec.toNat_ofNat, Nat.add_mod_mod]
  exact Nat.mod_eq_of_lt (by omega)

/-- Settles O4: by the branch of the filter, each of which excludes the others. -/
theorem serviceTickStepsFilterVolumeAndTick : Obligations.ServiceTickStepsFilterVolumeAndTick := by
  intro s b adc hmax
  have hvol := volumeSample_toNat adc
  have htick : (s.tick + 1).toNat = (s.tick.toNat + 1) % 2 ^ 32 := BitVec.toNat_add s.tick 1
  by_cases hb : b = s.dbLevel
  · exact ⟨_, exec_serviceTick_agree adc hb, rfl, hvol, htick, fun _ => ⟨rfl, rfl, rfl, rfl⟩,
      fun hne => absurd hb hne, fun hne => absurd hb hne⟩
  · rcases Nat.lt_or_ge (s.dbCount.toNat + 1) s.cfg.debounceN with hN | hN
    · exact ⟨_, exec_serviceTick_count adc hb hN, rfl, hvol, htick, fun heq => absurd heq hb,
        fun _ hle => absurd hle hN.not_ge, fun _ _ => ⟨rfl, dbCount_add_toNat hN hmax, rfl, rfl⟩⟩
    · exact ⟨_, exec_serviceTick_accept adc hb hN, rfl, hvol, htick, fun heq => absurd heq hb,
        fun _ _ => ⟨rfl, rfl, rfl, rfl⟩, fun _ hlt => absurd hN hlt.not_ge⟩

/-! ### The volume -/

/-- The mapping is the complement of the high byte of the reading (R255). -/
theorem volumeSample_eq_not (adc : BitVec 12) : volumeSample adc = ~~~(adc.extractLsb' 4 8) := by
  apply BitVec.eq_of_toNat_eq
  rw [volumeSample_toNat, BitVec.toNat_not, BitVec.extractLsb'_toNat, Nat.shiftRight_eq_div_pow]
  omega

/-- What AUDIO_TICK leaves in OUT is the raw sample scaled by the volume it found (R233, R234). -/
theorem exec_audioTick_out {s t : State} (h : exec .audioTick s = .next t) : t.out = scale t.raw s.vol := by
  obtain ⟨u, hmux, rfl⟩ := execAudioTick_eq_next.mp h
  have hvol : u.vol = s.vol := by rw [muxSelect_frame hmux, pendingStep_vol]
  rw [emitSample_out, emitSample_raw, hvol]

/-- Settles O5: VOL is what the mapping gives, and it is the volume the AUDIO_TICK that follows finds. -/
theorem volumeIsInvertedReading : Obligations.VolumeIsInvertedReading := by
  refine ⟨fun s b adc => ⟨_, exec_serviceTick b adc s, volumeSample_toNat adc, volumeSample_eq_not adc,
    fun u hu => ?_⟩, rfl, rfl, fun q r hq hr => ?_⟩
  · rw [exec_audioTick_out hu, scale_toNat, tickStep_vol, volumeStep_vol, volumeSample_toNat]
    rfl
  · rw [volumeSample_toNat, BitVec.toNat_ofNat]
    omega

/-! ### The tick counter -/

/-- Among the operations but RESET, SERVICE_TICK alone writes TICK, and advances it by one (R256). -/
theorem exec_tick {i : Instr} {s t : State} (h : exec i s = .next t) (hreset : i ≠ .reset) :
    t.tick = s.tick + BitVec.ofNat 32 ([i].countP isServiceTick) := by
  cases i with
  | reset => exact absurd rfl hreset
  | serviceTick btn adc =>
    cases h
    simp [isServiceTick]
  | audioTick =>
    rw [execAudioTick_frame h]
    exact (BitVec.add_zero _).symm
  | fgPoll | idle | deadlineCheck goal =>
    cases h
    simp [isServiceTick]
  | loop0 | loop1 | loop2 | loop3 | tone0 | tone1 | wnoise | pnoise | silence =>
    rw [exec_of_encode_msel rfl] at h
    rw [muxSelect_frame h]
    exact (BitVec.add_zero _).symm

/-- A sequence of operations without RESET advances TICK by the number of SERVICE_TICKs in it (R256). -/
theorem execAll_tick (ops : List Instr) : ∀ {s t : State}, .reset ∉ ops → execAll ops s = .next t →
    t.tick = s.tick + BitVec.ofNat 32 (ops.countP isServiceTick) := by
  induction ops with
  | nil =>
    intro s t _ h
    cases h
    exact (BitVec.add_zero _).symm
  | cons i ops ih =>
    intro s t hreset h
    obtain ⟨hi, hops⟩ := List.ne_and_not_mem_of_not_mem_cons hreset
    obtain ⟨u, hfirst, hrest⟩ := andThen_eq_next.mp h
    rw [ih hops hrest, exec_tick hfirst (Ne.symm hi), BitVec.add_assoc, ← BitVec.ofNat_add, ← List.countP_append,
      List.singleton_append]

/-- The 32-bit increment as a number (R13). -/
theorem word_add_one_toNat (x : Word) : (x + 1).toNat = if x = 0xFFFFFFFF then 0 else x.toNat + 1 := by
  split <;> bv_omega

/-- Settles O6: one SERVICE_TICK by the 32-bit increment, a sequence by `execAll_tick`. -/
theorem tickCountsServiceTicks : Obligations.TickCountsServiceTicks := by
  refine ⟨fun s b adc => ⟨_, exec_serviceTick b adc s, ?_⟩, fun ops s t hreset h => ?_⟩
  · rw [tickStep_tick, volumeStep_tick, debounceStep_tick, word_add_one_toNat]
  · rw [execAll_tick ops hreset h, BitVec.toNat_add, BitVec.toNat_ofNat, Nat.add_mod_mod]

/-! ### Runs of samples -/

/-- A run of samples goes on from what its first sample leaves (R250). -/
theorem execAll_serviceOps_cons {x : Bool × BitVec 12} {s t : State} (samples : List (Bool × BitVec 12))
    (h : exec (.serviceTick x.1 x.2) s = .next t) :
    execAll (serviceOps (x :: samples)) s = execAll (serviceOps samples) t := by
  change andThen (exec (.serviceTick x.1 x.2) s) (execAll (serviceOps samples)) = _
  rw [h, andThen_next]

/-- Samples of the other level that do not bring the count to N are counted, and nothing is accepted (R253 a). -/
theorem execAll_serviceOps_count {b : Bool} (samples : List (Bool × BitVec 12)) :
    ∀ {s : State}, (∀ x ∈ samples, x.1 = b) → b ≠ s.dbLevel → s.cfg.debounceN ≤ 255 →
      s.dbCount.toNat + samples.length < s.cfg.debounceN →
      ∃ vol tick, execAll (serviceOps samples) s =
        .next { s with dbCount := s.dbCount + BitVec.ofNat 8 samples.length, vol := vol, tick := tick } := by
  induction samples with
  | nil => exact fun {s} _ _ _ _ => ⟨s.vol, s.tick, by simp [serviceOps, execAll]⟩
  | cons x rest ih =>
    intro s hlevel hb hmax hcount
    obtain ⟨rfl, hrest⟩ := List.forall_mem_cons.mp hlevel
    rw [List.length_cons] at hcount
    have hN : s.dbCount.toNat + 1 < s.cfg.debounceN := by omega
    have hsucc : (s.dbCount + 1#8).toNat = s.dbCount.toNat + 1 := dbCount_add_toNat hN hmax
    rw [execAll_serviceOps_cons rest (exec_serviceTick_count x.2 hb hN)]
    obtain ⟨vol, tick, hrun⟩ := ih
      (s := { s with dbCount := s.dbCount + 1#8, vol := volumeSample x.2, tick := s.tick + 1 }) hrest hb hmax
      (by simp only [hsucc]; omega)
    refine ⟨vol, tick, ?_⟩
    rw [hrun, List.length_cons, Nat.add_comm, BitVec.ofNat_add, ← BitVec.add_assoc]

/-- Every run of samples completes (R250). -/
theorem exists_execAll_serviceOps (samples : List (Bool × BitVec 12)) :
    ∀ s : State, ∃ t, execAll (serviceOps samples) s = .next t := by
  induction samples with
  | nil => exact fun s => ⟨s, rfl⟩
  | cons x rest ih =>
    intro s
    rw [execAll_serviceOps_cons rest (exec_serviceTick x.1 x.2 s)]
    exact ih _

/-- Settles O7: by the length of the run; of a run longer than N nothing is claimed but that it completes. -/
theorem debounceAcceptsNthSample : Obligations.DebounceAcceptsNthSample := by
  intro s samples hpos hmax hcount hlevel
  have hb : (!s.dbLevel) ≠ s.dbLevel := Bool.not_ne_self _
  have hzero : s.dbCount.toNat = 0 := by rw [hcount]; rfl
  rcases Nat.lt_trichotomy samples.length s.cfg.debounceN with hlt | heq | hgt
  · obtain ⟨_, _, hrun⟩ := execAll_serviceOps_count samples hlevel hb hmax (by omega)
    refine ⟨_, hrun, fun h => absurd h hlt.ne, fun _ => ⟨rfl, ?_, rfl, rfl⟩⟩
    rw [dbCount_add_toNat (by omega) hmax, hzero, Nat.zero_add]
  · have hne : samples ≠ [] := List.ne_nil_of_length_pos (by omega)
    obtain ⟨_, hrun⟩ := execAll_serviceOps_accept samples hne hlevel hb hmax (by omega)
    exact ⟨_, hrun, fun _ => ⟨rfl, rfl, rfl, by simp⟩, fun h => absurd heq h.ne⟩
  · obtain ⟨t, hrun⟩ := exists_execAll_serviceOps samples s
    exact ⟨t, hrun, fun h => absurd h hgt.ne', fun h => absurd h hgt.not_gt⟩

/-- Settles O8: the run is only counted, and the sample that ends it clears the count. -/
theorem debounceRejectsGlitches : Obligations.DebounceRejectsGlitches := by
  intro s samples adc hmax hcount hlevel hlength
  have hzero : s.dbCount.toNat = 0 := by rw [hcount]; rfl
  obtain ⟨_, _, hrun⟩ := execAll_serviceOps_count samples hlevel (Bool.not_ne_self _) hmax (by omega)
  rw [serviceOps_append, execAll_append, hrun, andThen_next]
  exact ⟨_, execAll_serviceOps_cons [] (exec_serviceTick_agree adc rfl), rfl, rfl, rfl, rfl⟩

/-! ### Two edges of one kind -/

/-- The flag of an accepted edge to `level`: RISE to 1, FALL to 0 (R43, R44). -/
def State.edgeFlag (s : State) (level : Bool) : Bool := if level then s.rise else s.fall

/-- A lower bound on the samples since the last accepted edge to `level`: the count, and the N samples of an edge back
where the stable level is the other one by now. The next edge to `level` needs it to reach 2N (R253 c). -/
def State.samplesSince (s : State) (level : Bool) : Nat :=
  s.dbCount.toNat + if s.dbLevel = level then 0 else s.cfg.debounceN

/-- One sample takes the filter at most one nearer to the next edge to `level`, and before the 2N-th does not flag it
(R252). -/
theorem exec_serviceTick_samplesSince {b level : Bool} {adc : BitVec 12} {s t : State}
    (h : exec (.serviceTick b adc) s = .next t) (hearly : s.samplesSince level + 1 < 2 * s.cfg.debounceN) :
    t.edgeFlag level = s.edgeFlag level ∧ t.samplesSince level ≤ s.samplesSince level + 1 := by
  by_cases hb : b = s.dbLevel
  · cases (exec_serviceTick_agree adc hb).symm.trans h
    exact ⟨rfl, by simp [State.samplesSince]; omega⟩
  · rcases Nat.lt_or_ge (s.dbCount.toNat + 1) s.cfg.debounceN with hN | hN
    · cases (exec_serviceTick_count adc hb hN).symm.trans h
      have hle : (s.dbCount + 1#8).toNat ≤ s.dbCount.toNat + 1 := Nat.mod_le _ _
      exact ⟨rfl, by simp only [State.samplesSince]; omega⟩
    · cases (exec_serviceTick_accept adc hb hN).symm.trans h
      simp only [State.samplesSince, State.edgeFlag] at hearly ⊢
      by_cases hlevel : b = level
      · subst hlevel
        rw [if_neg (Ne.symm hb)] at hearly
        omega
      · obtain rfl : b = !level := Bool.eq_not_of_ne hlevel
        rw [if_neg hlevel]
        exact ⟨by cases level <;> simp, by simp; omega⟩

/-- Fewer samples than are left to the next edge to `level` do not flag one (R253 c). -/
theorem execAll_serviceOps_edgeFlag {level : Bool} (samples : List (Bool × BitVec 12)) :
    ∀ {s t : State}, execAll (serviceOps samples) s = .next t →
      s.samplesSince level + samples.length < 2 * s.cfg.debounceN → t.edgeFlag level = s.edgeFlag level := by
  induction samples with
  | nil =>
    intro s t h _
    cases h
    rfl
  | cons x rest ih =>
    intro s t h hearly
    obtain ⟨u, hfirst, hrest⟩ := andThen_eq_next.mp h
    rw [List.length_cons] at hearly
    obtain ⟨hflag, hsince⟩ := exec_serviceTick_samplesSince (level := level) hfirst (by omega)
    obtain ⟨hcfg, -⟩ := exec_keeps hfirst
    rw [ih hrest (by rw [hcfg]; omega), hflag]

/-- A count of 0 at the stable level `level` is the state right after an edge to it. -/
theorem samplesSince_of_settled {level : Bool} {s : State} (hcount : s.dbCount = 0) (hlevel : s.dbLevel = level) :
    s.samplesSince level = 0 := by
  rw [State.samplesSince, hcount, if_pos hlevel]
  rfl

/-- Settles O9: the same for either level, from the state right after its edge. -/
theorem sameEdgesAreTwoRunsApart : Obligations.SameEdgesAreTwoRunsApart := by
  intro s samples _ _ hcount hlength
  obtain ⟨t, hrun⟩ := exists_execAll_serviceOps samples s
  have hflag : ∀ level, s.dbLevel = level → t.edgeFlag level = s.edgeFlag level := fun level hlevel =>
    execAll_serviceOps_edgeFlag samples hrun (by rw [samplesSince_of_settled hcount hlevel]; omega)
  exact ⟨t, hrun, fun hlevel hrise => (hflag true hlevel).trans hrise,
    fun hlevel hfall => (hflag false hlevel).trans hfall⟩

/-! ### The deadline comparator -/

/-- The comparator answers whether the 32-bit difference is in the lower half of its range (R258). -/
theorem deadlineReached_eq_decide (tick goal : Word) :
    deadlineReached tick goal = decide ((tick - goal).toNat < 2 ^ 31) := by
  rw [deadlineReached, decide_eq_decide, BitVec.toInt_pos_iff]
  omega

/-- The 32-bit difference as a number (R13). -/
theorem sub_toNat_eq_emod (x y : Word) : ((x - y).toNat : Int) = ((x.toNat : Int) - y.toNat) % 2 ^ 32 := by
  rw [BitVec.toNat_sub]
  omega

/-- Settles O36: both readings of the sign are of the same half of the range. -/
theorem deadlineCheckComparesDifference : Obligations.DeadlineCheckComparesDifference := by
  intro s goal
  refine ⟨deadlineReached s.tick goal, rfl, ?_, ?_⟩
  · rw [deadlineReached_eq_decide, decide_eq_true_eq, ← sub_toNat_eq_emod]
    omega
  · have hmsb : (s.tick - goal).getLsbD 31 = decide (2 ^ 31 ≤ (s.tick - goal).toNat) := 
      (BitVec.msb_eq_getLsbD_last _).symm.trans (BitVec.msb_eq_decide _)
    rw [deadlineReached_eq_decide, hmsb, ← decide_not, decide_eq_decide, Nat.not_le]

/-- `n` ticks past the goal it reads reached exactly while `n` is in the lower half of the range (R259). -/
theorem deadlineReached_add_ofNat {n : Nat} (goal : Word) (hn : n < 2 ^ 32) :
    deadlineReached (goal + BitVec.ofNat 32 n) goal = decide (n < 2 ^ 31) := by
  rw [deadlineReached_eq_decide, add_sub_cancel_left, BitVec.toNat_ofNat, Nat.mod_eq_of_lt hn]

/-- Settles O37: the comparator sees the difference alone. -/
theorem deadlineIsTranslationInvariant : Obligations.DeadlineIsTranslationInvariant := by
  refine ⟨fun g => ?_, fun t g k => ?_, fun g n => ⟨fun hn => ?_, fun hlo hhi => ?_⟩⟩
  · rw [deadlineReached_eq_decide, sub_self]
    rfl
  · rw [deadlineReached, add_sub_add_right_eq_sub, deadlineReached]
  · rw [deadlineReached_add_ofNat g (by omega)]
    exact decide_eq_true (by omega)
  · rw [deadlineReached_add_ofNat g (by omega)]
    exact decide_eq_false (by omega)

end Sys2Proof.Machine
end

section
/-! The block stops nowhere (spec/60_exceptions.md R280, R286), and what the operations of one request see of one
another (R284). -/
namespace Sys2Proof.Machine

/-! ### No operation stops -/

/-- Every operation the environment can request completes on a state of the invariant: AUDIO_TICK because POS is in
range where it is read, the others from any state (R183, R280). -/
theorem Inv.exists_exec {i : Instr} {s : State} (h : Inv s) (hi : topLevel i = true) : ∃ t, exec i s = .next t := by
  cases i with
  | audioTick =>
    obtain ⟨t, hexec, -⟩ := audioTickCompletes s h.configValid h.posInRange
    exact ⟨t, hexec⟩
  | reset | serviceTick btn adc | fgPoll | idle | deadlineCheck goal => exact ⟨_, rfl⟩
  | loop0 | loop1 | loop2 | loop3 | tone0 | tone1 | wnoise | pnoise | silence => cases hi

/-- From a state of the invariant the machine steps to a state of the invariant (R52, R280). -/
theorem Inv.exists_step {s : State} (h : Inv s) : ∃ t, step s = .next t ∧ Inv t := by
  obtain ⟨htop, hfetched⟩ := h.after_fetch
  obtain ⟨t, hexec⟩ := hfetched.exists_exec htop
  have hstep : step s = .next t := step_eq_next.mpr ⟨h.configValid, hexec⟩
  exact ⟨t, hstep, stepKeepsInvariant s t h hstep⟩

/-- Settles O55, by induction on the number of steps: the first one answers a state of the invariant, from which the
others run. -/
theorem neverStops : Obligations.NeverStops := by
  intro s n h
  induction n generalizing s with
  | zero => exact ⟨s, rfl, h⟩
  | succ n ih =>
    obtain ⟨t, hstep, ht⟩ := h.exists_step
    obtain ⟨v, hrun, hv⟩ := ih t ht
    refine ⟨v, ?_, hv⟩
    rw [steps, hstep, andThen_next, hrun]

/-! ### Operations requested together -/

/-- FG_POLL always completes, by its two steps in turn (R211). -/
theorem exec_fgPoll (s : State) : exec .fgPoll s = .next (pollFall (pollRise s)) := rfl

/-- Three operations that complete one after the other are performed as a sequence (R11). -/
theorem execAll_three {i j k : Instr} {s t u v : State} (hi : exec i s = .next t) (hj : exec j t = .next u)
    (hk : exec k u = .next v) : execAll [i, j, k] s = .next v := by
  simp only [execAll, hi, hj, hk, andThen_next]

/-- A request of the three events together is performed as their sequence, AUDIO_TICK, SERVICE_TICK and FG_POLL, in
three steps (R106, R284). -/
theorem steps_of_three_events {s : State} {b : Bool} {adc : BitVec 12} {rest : List Input} (hv : s.cfg.valid = true)
    (htodo : s.todo = []) (htrace : s.trace = .request 0b0111 b adc :: rest) :
    steps 3 s = execAll [.audioTick, .serviceTick b adc, .fgPoll] { s with trace := rest } :=
  runsTheRequestedOperations [.request 0b0111 b adc] rest s hv htodo htrace

/-- Settles O46: SERVICE_TICK and FG_POLL complete from any state and keep OUT, AUDIO_TICK leaves PENDING clear, so that
PENDING is set after the request just where SERVICE_TICK left RISE to the poll. -/
theorem simultaneousRequestsKeepPriority : Obligations.SimultaneousRequestsKeepPriority := by
  intro s b adc rest hv hrange htodo htrace
  obtain ⟨t, ht, hframe, hout⟩ := audioTickCompletes { s with trace := rest } hv hrange
  have hmode : t.mode = s.mode := by rw [hframe]
  have hpending : t.pending = false := by rw [hframe]
  have hu := exec_serviceTick b adc t
  have hw := exec_fgPoll (tickStep (volumeStep adc (debounceStep b t)))
  refine ⟨t, _, _, _, ht, hu, hw, ?_, rfl, ?_, hmode, ?_, ?_, ?_⟩
  · rw [steps_of_three_events hv htodo htrace]
    exact execAll_three ht hu hw
  · simpa using hout
  · simpa using volumeSample_toNat adc
  · simp [hpending]
  · simp

end Sys2Proof.Machine
end

section
/-! Reset and hazards (spec/70_reset_and_hazards.md): what RESET leaves, the first sample after it, how a run begins,
and the horizon of a deadline. -/
namespace Sys2Proof.Machine

/-! ### RESET -/

/-- RESET always completes (R310). -/
theorem exec_reset (s : State) : exec .reset s = .next (resetRegisters s) := rfl

/-- Every band of the reset vector is 0 (R310). -/
theorem get_resetRegisters_band (s : State) (i : Fin 8) : (resetRegisters s).band.get i = 0 := by
  simp [Vector.get]

/-- The position after the first one is 1 in a loop of more than one position (R182). -/
theorem nextPos_zero {c : Config} {k : Fin 4} (hspan : 1 < c.loopSpan k) : nextPos c k 0 = 1 :=
  if_neg (Nat.not_le.mpr hspan)

/-- At volume 0 every sample is silent (R233, R312). -/
@[simp] theorem scale_zero_right (raw : Byte) : scale raw 0 = 0 := by
  rw [scale_comm, scale_zero_left]

/-- AUDIO_TICK right after RESET plays loop 0 at its first position, silently, since VOL is 0 (R310). -/
theorem exec_audioTick_resetRegisters {s : State} (hv : s.cfg.valid = true) :
    exec .audioTick (resetRegisters s) = .next (emitSample 0 (playLoop 0 (resetRegisters s))) := by
  have hmux := muxSelect_pendingStep_of_loop (s := resetRegisters s) (k := 0) hv (loopInRange_of_pos_zero hv rfl) rfl
  rw [exec_audioTick_of_muxSelect hmux, resetRegisters_vol, scale_zero_right,
    pendingStep_of_not_pending (resetRegisters_pending s)]

/-- Settles O1: the registers are read off `resetRegisters`, and with F = 8 loop 0 has at least eight positions, so that
the tick leaves POS 1. -/
theorem resetWritesEveryRegister : Obligations.ResetWritesEveryRegister := by
  intro s
  refine ⟨fun ev btn adc hev => decodeEv_of_reset hev btn adc, resetRegisters s, exec_reset s, rfl, rfl, rfl, rfl,
    rfl, rfl, get_resetRegisters_band s, rfl, rfl, rfl, rfl, rfl, rfl, rfl, rfl, rfl, rfl, fun hv hF => ?_⟩
  have hspan : 1 < s.cfg.loopSpan 0 := by
    have hpos := loopSpan_pos hv 0
    rw [Config.loopSpan, hF] at hpos ⊢
    omega
  exact ⟨_, exec_audioTick_resetRegisters hv, rfl, nextPos_zero hspan, rfl, rfl⟩

/-! ### How a run begins -/

/-- A trace that begins with RESET begins with an input that requests RESET alone (R106, R311). -/
theorem exists_reset_of_startsWithReset {trace : List Input} (h : startsWithReset trace = true) :
    ∃ x, trace = x :: trace.tail ∧ x.ops = [.reset] := by
  cases trace with
  | nil => cases h
  | cons x inputs =>
    cases x with
    | request ev btn adc => exact ⟨_, rfl, decodeEv_of_reset h btn adc⟩
    | deadline goal => cases h

/-- In a valid configuration a trace that does not begin with RESET is refused (R311). -/
theorem startRun_of_not_reset (before : State) {c : Config} {trace : List Input} (hv : c.valid = true)
    (h : startsWithReset trace = false) : startRun before c trace = .refused .traceWithoutReset := by
  rw [startRun, if_pos hv, if_neg (Bool.eq_false_iff.mp h)]

/-- In a valid configuration a trace that begins with RESET is begun, with nothing put out (R311, R312). -/
theorem startRun_of_reset (before : State) {c : Config} {trace : List Input} (hv : c.valid = true)
    (h : startsWithReset trace = true) :
    startRun before c trace =
      .next { before with cfg := c, trace := trace, todo := [], sink := [], reached := [] } := by
  rw [startRun, if_pos hv, if_pos h]

/-- Settles O48: the first operation fetched is RESET, which leaves the reset registers from any state. -/
theorem runBeginsWithReset : Obligations.RunBeginsWithReset := by
  intro before c trace hv
  refine ⟨startRun_of_not_reset before hv, fun hreset => ?_⟩
  obtain ⟨x, htrace, hx⟩ := exists_reset_of_startsWithReset hreset
  exact ⟨_, _, startRun_of_reset before hv hreset, step_of_fetch hv (fetch_of_trace rfl htrace hx), rfl, rfl, rfl,
    rfl, fun _ => rfl⟩

/-! ### The horizon of a deadline -/

/-- From the goal on, for one turn of the counter, it reads reached during the first 2^31 ticks (R321). -/
theorem deadlineReached_ticks_of_le {n m : Nat} (start : Word) (hle : n ≤ m) (hlt : m < n + 2 ^ 32) :
    deadlineReached (start + BitVec.ofNat 32 m) (start + BitVec.ofNat 32 n) = decide (m < n + 2 ^ 31) := by
  obtain ⟨d, rfl⟩ := Nat.exists_eq_add_of_le hle
  rw [BitVec.ofNat_add, ← add_assoc, deadlineReached_add_ofNat _ (Nat.lt_of_add_lt_add_left hlt), decide_eq_decide]
  exact (Nat.add_lt_add_iff_left).symm

/-- Settles O38: a tick before the goal shows the same TICK as the one a full turn later, which is past the horizon
because the goal is less than 2^31 ticks ahead. -/
theorem deadlineHorizonIsHalfTheRange : Obligations.DeadlineHorizonIsHalfTheRange := by
  intro start n m hn
  refine ⟨fun hbefore => ?_, fun hle hlt => ?_, fun hle hlt => ?_⟩
  · have hturn : BitVec.ofNat 32 m = BitVec.ofNat 32 (m + 2 ^ 32) := BitVec.eq_of_toNat_eq (by simp)
    rw [hturn, deadlineReached_ticks_of_le start (by omega) (by omega)]
    exact decide_eq_false (by omega)
  · rw [deadlineReached_ticks_of_le start hle (by omega)]
    exact decide_eq_true hlt
  · rw [deadlineReached_ticks_of_le start (by omega) hlt]
    exact decide_eq_false (Nat.not_lt.mpr hle)

end Sys2Proof.Machine
end

section
/-! The canonical form of the read-only spaces (log entry 13): what a space reads as determines its cells. -/
namespace Sys2Proof

/-- The parts of the canonical form of a space with a first cell. -/
theorem Memory.wfFrom_cons {lo hi b : Nat} {v : Byte} {rest : Memory} :
    Memory.wfFrom lo hi ((b, v) :: rest) = true ↔
      lo ≤ b ∧ b < hi ∧ v ≠ Memory.unlisted ∧ Memory.wfFrom (b + 1) hi rest = true := by
  simp only [Memory.wfFrom, Bool.and_eq_true, decide_eq_true_eq, and_assoc]

/-- The first cell is read at its index. -/
theorem Memory.read_cons_self (b : Nat) (v : Byte) (rest : Memory) : Memory.read ((b, v) :: rest) b = v := if_pos rfl

/-- At another index the first cell is passed over. -/
theorem Memory.read_cons_of_ne {a b : Nat} (h : a ≠ b) (v : Byte) (rest : Memory) :
    Memory.read ((b, v) :: rest) a = Memory.read rest a := if_neg h

/-- In canonical form no index before the first cell's reads as listed. -/
theorem Memory.le_of_read_ne {lo hi a b : Nat} {v : Byte} {rest : Memory}
    (hwf : Memory.wfFrom lo hi ((b, v) :: rest) = true)
    (hread : Memory.read ((b, v) :: rest) a ≠ Memory.unlisted) : b ≤ a := by
  obtain ⟨-, hb, hv, hrest⟩ := Memory.wfFrom_cons.mp hwf
  refine Nat.le_of_not_lt fun hab => hread ?_
  exact Memory.read_of_lt hab (Memory.wfFrom_cons.mpr ⟨le_rfl, hb, hv, hrest⟩)

/-- Two spaces in canonical form that read the same at every index of their range have the same cells: the first cell
of each stands no later than the other's, and the rests read the same above it. -/
theorem Memory.eq_of_read_eq {lo hi : Nat} {m n : Memory} (hm : Memory.wfFrom lo hi m = true)
    (hn : Memory.wfFrom lo hi n = true)
    (hread : ∀ a, lo ≤ a → a < hi → Memory.read m a = Memory.read n a) : m = n := by
  induction m generalizing lo n with
  | nil =>
    cases n with
    | nil => rfl
    | cons cell rest =>
      obtain ⟨hlo, hhi, hlisted, -⟩ := Memory.wfFrom_cons.mp hn
      exact absurd ((Memory.read_cons_self _ _ rest).symm.trans (hread _ hlo hhi).symm) hlisted
  | cons cell mrest ih =>
    obtain ⟨b, v⟩ := cell
    obtain ⟨hlo, hhi, hlisted, hmrest⟩ := Memory.wfFrom_cons.mp hm
    have hv : Memory.read n b = v := by rw [← hread b hlo hhi, Memory.read_cons_self]
    cases n with
    | nil => exact absurd hv.symm hlisted
    | cons cell nrest =>
      obtain ⟨c, w⟩ := cell
      obtain ⟨hlo', hhi', hlisted', hnrest⟩ := Memory.wfFrom_cons.mp hn
      have hw : Memory.read ((b, v) :: mrest) c = w := by rw [hread c hlo' hhi', Memory.read_cons_self]
      obtain rfl : b = c :=
        Nat.le_antisymm (Memory.le_of_read_ne hm (hw ▸ hlisted')) (Memory.le_of_read_ne hn (hv ▸ hlisted))
      obtain rfl : w = v := (Memory.read_cons_self b w nrest).symm.trans hv
      refine congrArg _ (ih hmrest hnrest fun a ha hahi => ?_)
      have hne : a ≠ b := Nat.ne_of_gt ha
      rw [← Memory.read_cons_of_ne hne w mrest, hread a (by omega) hahi, Memory.read_cons_of_ne hne]

/-- Settles O51: the two spaces have one size, and `Memory.eq_of_read_eq` compares them over it. -/
theorem canonicalRomsAreExtensional : Obligations.CanonicalRomsAreExtensional := by
  rintro ⟨len, m⟩ ⟨len', n⟩ hm hn hlen hread
  obtain rfl : len = len' := hlen
  exact congrArg (LoopRom.mk len) (Memory.eq_of_read_eq hm hn fun a _ ha => hread a ha)

end Sys2Proof
end
